-- ==== Sys2Proof/Word.lean ====
section
/-! DEFINITION. The word types of the engine: bytes, 32-bit words, byte sequences (00_scope.md R11, R12). -/

namespace Sys2Proof

/-- A byte: 8 bits, bit 0 the least significant (R11). -/
abbrev Byte := BitVec 8

/-- A 32-bit word of the bus or of CMD (R16, R110). -/
abbrev Word := BitVec 32

/-- A byte sequence: a finite list of bytes indexed from 0 (R12). Blocks, states, keys and schedule words are
byte sequences too (R13, R14). -/
abbrev Bytes := List Byte

end Sys2Proof
end

