-- ==== Sys2Proof/Config.lean ====
section
/-! DEFINITION. What the spec fixes for this hardware (00_scope.md R8), the parameters it leaves open (R9), and the
free values: bodiless constants about which nothing is known. -/

namespace Sys2Proof

/-- XTS_TWEAK_SCHEDULE: how the tweak changes from block to block of a sector (R9, D20). -/
inductive XtsTweakSchedule where
  | alpha
  | sectorIncrement
  | constant
deriving DecidableEq, Repr

/-- XTS_PAD_POLICY: whether XTS pads a block-aligned input (R9, D21). -/
inductive XtsPadPolicy where
  | always
  | ifUnaligned
deriving DecidableEq, Repr

/-- The finite parameters of R9 that a command's outcome depends on (R152). -/
structure Params where
  xtsTweakSchedule : XtsTweakSchedule
  xtsPadPolicy : XtsPadPolicy
deriving DecidableEq, Repr

namespace Config

/-- MAX_DATA (R8): the size of DIN and the largest legal DLEN. -/
def maxData : Nat := 4096

/-- MAX_AAD (R8): the size of AAD and the largest legal AADLEN. -/
def maxAad : Nat := 256

/-- The value of ID (R32). -/
def idValue : Word := 0x41455301

/-- The value of CAP (R33): MAX_AAD in the high half, MAX_DATA in the low half. -/
def capValue : Word := 0x01001000

/-- The defaults of R9, DESIGN CHOICE for `State.reset` (log 5). -/
def defaultParams : Params := ⟨.alpha, .always⟩

/-- KEYED_HASH of R9 and R10: a total function of the key and the message, 16 bytes, otherwise unknown (log 4). -/
opaque keyedHash (key msg : Bytes) : Vector Byte 16

/-- FREE VALUE: the byte that a buffer offset holds after the `resets`-th reset, until it is written (R380, log 2). -/
opaque resetByte (resets offset : Nat) : Byte

/-- FREE VALUE: the `draw`-th byte that a read of an output returns while BUSY = 1 (R89, log 3). -/
opaque busyByte (draw : Nat) : Byte

end Config

end Sys2Proof
end

