-- ==== Sys2Proof/Syntax.lean ====
section
/-! DEFINITION. The commands of the engine, one constructor per row of spec/opcode_table.json
(30_encoding.md R118, and the UNSUPPORTED_MODE words of R119 and R320). -/

namespace Sys2Proof

inductive Instr where
  /-- KEY_EXPAND (R205) -/
  | keyExpand
  /-- BLOCK_ENC (R254) -/
  | blockEnc
  /-- BLOCK_DEC (R255) -/
  | blockDec
  /-- BLOCK_ENC.T (R257) -/
  | blockEncT
  /-- BLOCK_DEC.T (R258) -/
  | blockDecT
  /-- ECB_ENC (R301) -/
  | ecbEnc
  /-- CBC_ENC (R303) -/
  | cbcEnc
  /-- CTR_ENC (R306) -/
  | ctrEnc
  /-- CFB_ENC (R308) -/
  | cfbEnc
  /-- OFB_ENC (R310) -/
  | ofbEnc
  /-- XTS_ENC (R314) -/
  | xtsEnc
  /-- GCM_ENC (R317) -/
  | gcmEnc
  /-- ECB_DEC (R302) -/
  | ecbDec
  /-- CBC_DEC (R304) -/
  | cbcDec
  /-- CTR_DEC (R307) -/
  | ctrDec
  /-- CFB_DEC (R309) -/
  | cfbDec
  /-- OFB_DEC (R311) -/
  | ofbDec
  /-- XTS_DEC (R315) -/
  | xtsDec
  /-- GCM_DEC (R318) -/
  | gcmDec
  /-- GCM_DEC.NV (R319) -/
  | gcmDecNv
  /-- PAD (R282) -/
  | pad
  /-- UNPAD (R283) -/
  | unpad
  /-- GF_MUL (R186) -/
  | gfMul
  /-- CLEAR (R160) -/
  | clear
  /-- SUB_BYTES (R230) -/
  | subBytes
  /-- INV_SUB_BYTES (R231) -/
  | invSubBytes
  /-- SHIFT_ROWS (R232) -/
  | shiftRows
  /-- INV_SHIFT_ROWS (R233) -/
  | invShiftRows
  /-- MIX_COLUMNS (R234) -/
  | mixColumns
  /-- INV_MIX_COLUMNS (R235) -/
  | invMixColumns
  /-- ADD_ROUND_KEY r, r = ROUND (R117, R236) -/
  | addRoundKey (r : Nat)
  /-- MODE_ENC with MODE = 7 (R320) -/
  | modeEncUnsupported7
  /-- MODE_ENC with MODE = mode, 8 to 15 (R320) -/
  | modeEncUnsupported8to15 (mode : Nat)
  /-- MODE_DEC with MODE = 7 and NOVERIFY = nv (R320) -/
  | modeDecUnsupported7 (nv : Bool)
  /-- MODE_DEC with MODE = mode, 8 to 15, and NOVERIFY = nv (R320) -/
  | modeDecUnsupported8to15 (mode : Nat) (nv : Bool)
deriving DecidableEq, Repr

end Sys2Proof
end

