-- ==== Sys2Proof/WellFormed.lean ====
section
/-! DEFINITION. Which terms of Instr a command word can stand for: the operand fields fit their bits (30_encoding.md R111). -/

namespace Sys2Proof

/-- ROUND is a 4-bit field (R117); the rows of MODE 8 to 15 hold exactly those modes (R119). -/
def Instr.wellFormed : Instr → Bool
  | .addRoundKey r => decide (r ≤ 15)
  | .modeEncUnsupported8to15 mode => decide (8 ≤ mode) && decide (mode ≤ 15)
  | .modeDecUnsupported8to15 mode _ => decide (8 ≤ mode) && decide (mode ≤ 15)
  | .keyExpand | .blockEnc | .blockDec | .blockEncT | .blockDecT
  | .ecbEnc | .cbcEnc | .ctrEnc | .cfbEnc | .ofbEnc | .xtsEnc | .gcmEnc
  | .ecbDec | .cbcDec | .ctrDec | .cfbDec | .ofbDec | .xtsDec | .gcmDec | .gcmDecNv
  | .pad | .unpad | .gfMul | .clear
  | .subBytes | .invSubBytes | .shiftRows | .invShiftRows | .mixColumns | .invMixColumns
  | .modeEncUnsupported7 | .modeDecUnsupported7 _ => true

end Sys2Proof
end

