-- ==== Sys2Proof/Decode.lean ====
section
/-! DEFINITION. The decoder, total on all 2^32 command words (30_encoding.md R112), and the encoder (R118, R119). -/

namespace Sys2Proof

/-- Why a word is no row of the opcode table. The words of UNSUPPORTED_MODE are rows, and decode to their
constructors (log 11). -/
inductive DecodeError where
  /-- R112: every failing check but the MODE ≥ 7 one. The engine goes on and reports ILLEGAL_CMD: safe, it is the spec's. -/
  | illegalCmd
deriving DecidableEq, Repr

/-- The fields of a command word (R111). -/
structure Fields where
  op : Nat
  mode : Nat
  trace : Bool
  noverify : Bool
  reserved : Bool
  round : Nat
deriving DecidableEq, Repr

/-- R111: OP [7:0], MODE [11:8], TRACE [12], NOVERIFY [13], ROUND [19:16]; `reserved` says that one of the bits
[15:14] and [31:20] is set. -/
def fieldsOf (w : Word) : Fields where
  op := (w.extractLsb' 0 8).toNat
  mode := (w.extractLsb' 8 4).toNat
  trace := w.getLsbD 12
  noverify := w.getLsbD 13
  reserved := (w.extractLsb' 14 2).toNat != 0 || (w.extractLsb' 20 12).toNat != 0
  round := (w.extractLsb' 16 4).toNat

/-- R113: the assigned OP values, 0x01 to 0x09 and 0x10 to 0x16. -/
def opAssigned (op : Nat) : Bool :=
  (decide (0x01 ≤ op) && decide (op ≤ 0x09)) || (decide (0x10 ≤ op) && decide (op ≤ 0x16))

/-- R114: the MODE_ENC commands by MODE; 7 to 15 are unrecognised. -/
def modeEncOf (mode : Nat) : Instr :=
  match mode with
  | 0 => .ecbEnc
  | 1 => .cbcEnc
  | 2 => .ctrEnc
  | 3 => .cfbEnc
  | 4 => .ofbEnc
  | 5 => .xtsEnc
  | 6 => .gcmEnc
  | 7 => .modeEncUnsupported7
  | m => .modeEncUnsupported8to15 m

/-- R114, R116: the MODE_DEC commands by MODE and NOVERIFY. NOVERIFY with MODE 0 to 5 is refused before. -/
def modeDecOf (mode : Nat) (nv : Bool) : Instr :=
  match mode with
  | 0 => .ecbDec
  | 1 => .cbcDec
  | 2 => .ctrDec
  | 3 => .cfbDec
  | 4 => .ofbDec
  | 5 => .xtsDec
  | 6 => if nv then .gcmDecNv else .gcmDec
  | 7 => .modeDecUnsupported7 nv
  | m => .modeDecUnsupported8to15 m nv

/-- R118: the command of an assigned OP and its fields, all checks passed. -/
def commandOf (f : Fields) : Except DecodeError Instr :=
  match f.op with
  | 0x01 => .ok .keyExpand
  | 0x02 => .ok (if f.trace then .blockEncT else .blockEnc)
  | 0x03 => .ok (if f.trace then .blockDecT else .blockDec)
  | 0x04 => .ok (modeEncOf f.mode)
  | 0x05 => .ok (modeDecOf f.mode f.noverify)
  | 0x06 => .ok .pad
  | 0x07 => .ok .unpad
  | 0x08 => .ok .gfMul
  | 0x09 => .ok .clear
  | 0x10 => .ok .subBytes
  | 0x11 => .ok .invSubBytes
  | 0x12 => .ok .shiftRows
  | 0x13 => .ok .invShiftRows
  | 0x14 => .ok .mixColumns
  | 0x15 => .ok .invMixColumns
  | 0x16 => .ok (.addRoundKey f.round)
  | _ => .error .illegalCmd

/-- R112: the checks in the spec's order. The UNSUPPORTED_MODE check comes before the last ILLEGAL_CMD check (C10);
it answers the row of that word. -/
def decodeFields (f : Fields) : Except DecodeError Instr :=
  if opAssigned f.op = false then .error .illegalCmd
  else if f.reserved = true then .error .illegalCmd
  else if f.mode ≠ 0 ∧ ¬ (f.op = 0x04 ∨ f.op = 0x05) then .error .illegalCmd
  else if f.trace = true ∧ ¬ (f.op = 0x02 ∨ f.op = 0x03) then .error .illegalCmd
  else if f.noverify = true ∧ f.op ≠ 0x05 then .error .illegalCmd
  else if f.round ≠ 0 ∧ f.op ≠ 0x16 then .error .illegalCmd
  else if f.mode ≥ 7 then commandOf f
  else if f.noverify = true ∧ f.mode ≠ 6 then .error .illegalCmd
  else commandOf f

/-- R112: decode reads nothing but the word. -/
def decode (w : Word) : Except DecodeError Instr := decodeFields (fieldsOf w)

/-- The command word of an instruction (R118; R119 for the UNSUPPORTED_MODE words). -/
def encode : Instr → Word
  | .keyExpand => 0x00000001
  | .blockEnc => 0x00000002
  | .blockDec => 0x00000003
  | .blockEncT => 0x00001002
  | .blockDecT => 0x00001003
  | .ecbEnc => 0x00000004
  | .cbcEnc => 0x00000104
  | .ctrEnc => 0x00000204
  | .cfbEnc => 0x00000304
  | .ofbEnc => 0x00000404
  | .xtsEnc => 0x00000504
  | .gcmEnc => 0x00000604
  | .ecbDec => 0x00000005
  | .cbcDec => 0x00000105
  | .ctrDec => 0x00000205
  | .cfbDec => 0x00000305
  | .ofbDec => 0x00000405
  | .xtsDec => 0x00000505
  | .gcmDec => 0x00000605
  | .gcmDecNv => 0x00002605
  | .pad => 0x00000006
  | .unpad => 0x00000007
  | .gfMul => 0x00000008
  | .clear => 0x00000009
  | .subBytes => 0x00000010
  | .invSubBytes => 0x00000011
  | .shiftRows => 0x00000012
  | .invShiftRows => 0x00000013
  | .mixColumns => 0x00000014
  | .invMixColumns => 0x00000015
  | .addRoundKey r => 0x00000016 ||| (BitVec.ofNat 32 (r % 16) <<< 16)
  | .modeEncUnsupported7 => 0x00000704
  | .modeEncUnsupported8to15 mode => 0x00000004 ||| (BitVec.ofNat 32 (mode % 16) <<< 8)
  | .modeDecUnsupported7 nv => 0x00000705 ||| (BitVec.ofNat 32 nv.toNat <<< 13)
  | .modeDecUnsupported8to15 mode nv =>
    0x00000005 ||| (BitVec.ofNat 32 (mode % 16) <<< 8) ||| (BitVec.ofNat 32 nv.toNat <<< 13)

/-- The instruction that the decoder reads from `nbits` bits `w`, numbered as spec/opcode_table.json numbers them.
A command is one 32-bit word (R120), stored as CMD receives it, so the bits are the word's own; those above `nbits` are 0. -/
def decodeTableWord (nbits w : Nat) : Option Instr :=
  if nbits ≤ 32 then
    match decode (BitVec.ofNat 32 (w % 2 ^ nbits)) with
    | .ok i => some i
    | .error _ => none
  else none

end Sys2Proof
end

