-- ==== Sys2Proof/Machine/State.lean ====
section
/-! DEFINITION. The state of the engine as plain data (10_state.md), and its value after reset (70_reset_and_hazards.md R380).
BUSY and ERR of STATUS are views (log 9); ID, CAP and CMD hold no state (R32, R33, R36). -/

namespace Sys2Proof.Machine

/-- The error codes 1 to 9 of R350; success, code 0, is the absence of one. -/
inductive ErrCode where
  | keyLength
  | blockLength
  | ivLength
  | nonceLength
  | invalidPadding
  | unsupportedMode
  | authentication
  | illegalCmd
  | range
deriving DecidableEq, Repr

/-- The width of a host access: 1, 2 or 4 bytes (R16, R82). -/
inductive AccessSize where
  | byte
  | half
  | word
deriving DecidableEq, Repr

/-- What the total order of R93 is made of. The window has 0x8000 bytes, so an offset has 15 bits (R80). -/
inductive Event where
  /-- MemRead(offset, n) of R16. -/
  | hostRead (offset : BitVec 15) (size : AccessSize)
  /-- MemWrite(offset, n, v) of R16; only the low n bytes of `value` are presented. -/
  | hostWrite (offset : BitVec 15) (size : AccessSize) (value : Word)
  /-- The Engine's turn: the completion step, when a command is pending (R153). -/
  | engine
  /-- The reset input (R380, R381). -/
  | reset
deriving DecidableEq, Repr

/-- What the bus answers to a host access (R82, R83, log 8). -/
inductive Response where
  /-- The value of a read, zero-extended to 32 bits. -/
  | data (value : Word)
  /-- A legal write was taken; a dropped or ignored one answers so too. -/
  | ack
  /-- A misaligned access: bus error, no effect (R83). -/
  | busError
deriving DecidableEq, Repr

/-- The registers of 10_state.md section 2. -/
inductive Reg where
  | id | cap | ctrl | cmd | status | keylen | ivlen | dlen | aadlen | olen | sector | gfop | gfres | traceCount
deriving DecidableEq, Repr

/-- The byte buffers of 10_state.md section 3. -/
inductive Buf where
  | key | iv | state | tag | roundKey | aad | din | dout | trace
deriving DecidableEq, Repr

/-- What one offset of the window names (R81): byte k of a register, byte i of a buffer, or a reserved byte. -/
inductive Place where
  | reg (r : Reg) (k : Nat)
  | buf (b : Buf) (i : Nat)
  | reserved
deriving DecidableEq, Repr

/-- The buffers' bytes by window offset. An offset that is not listed has not been written since the last reset: its
value is unspecified (R380), and `State.byteAt` reads it as a free value (log 2). -/
abbrev Memory := List Host.Cell

/-- The canonical form: addresses strictly rising. No listed byte equals what an unlisted offset holds, for that is no value (log 13). -/
abbrev Memory.wf (m : Memory) : Prop := m.Pairwise (fun c d => c.1 < d.1)

structure State where
  /-- CTRL.IRQ_EN (R34) -/
  irqEn : Bool
  /-- STATUS.DONE (R35) -/
  done : Bool
  /-- STATUS.WDROP (R35) -/
  wdrop : Bool
  /-- STATUS.ERRCODE (R35, R350), none for code 0 -/
  errcode : Option ErrCode
  /-- STATUS.KS_VALID (R35, R50) -/
  ksValid : Bool
  /-- STATUS.KS_NR (R35, R50) -/
  ksNr : BitVec 4
  /-- The command word accepted and not yet completed (R56); BUSY = 1 exactly when there is one. -/
  pending : Option Word
  /-- KEYLEN[6:0] (R37) -/
  keylen : BitVec 7
  /-- IVLEN[4:0] (R38) -/
  ivlen : BitVec 5
  /-- DLEN[12:0] (R39) -/
  dlen : BitVec 13
  /-- AADLEN[8:0] (R40) -/
  aadlen : BitVec 9
  /-- OLEN[12:0] (R41) -/
  olen : BitVec 13
  /-- SECTOR[31:0] (R42) -/
  sector : Word
  /-- GFOP[15:0]: A in [7:0], B in [15:8] (R43) -/
  gfop : BitVec 16
  /-- GFRES[7:0] (R44) -/
  gfres : Byte
  /-- TRACE_COUNT[6:0] (R45) -/
  traceCount : BitVec 7
  /-- KEY, IV, STATE, TAG, ROUNDKEY, AAD, DIN, DOUT, TRACE (R46 to R54) -/
  mem : Memory
  /-- MODEL'S OWN: XTS_TWEAK_SCHEDULE and XTS_PAD_POLICY (R9); no step changes them (log 5). -/
  params : Params
  /-- MODEL'S OWN: the steps of host, engine and platform still to come, in their total order (R93, log 6). -/
  schedule : List Event
  /-- MODEL'S OWN: the bus's answer to the last host access (log 8). -/
  response : Option Response
  /-- MODEL'S OWN: how many resets there have been; it numbers the free reset contents (log 2). -/
  resets : Nat
  /-- MODEL'S OWN: how many free bytes reads while busy have taken (log 3). -/
  draws : Nat
deriving DecidableEq, Repr

/-- The engine right after reset (R380): idle, every register 0, nothing listed in memory, so every buffer byte is
unspecified. The model's own fields stand at the values of logs 2, 3, 5, 6 and 8. -/
def State.reset : State where
  irqEn := false
  done := false
  wdrop := false
  errcode := none
  ksValid := false
  ksNr := 0
  pending := none
  keylen := 0
  ivlen := 0
  dlen := 0
  aadlen := 0
  olen := 0
  sector := 0
  gfop := 0
  gfres := 0
  traceCount := 0
  mem := []
  params := Config.defaultParams
  schedule := []
  response := none
  resets := 0
  draws := 0

/-- Nothing in this spec stops the engine: an error is a completion status (R354, R355) and a misaligned access a bus
answer (R357). So there is no fault. -/
inductive Fault where
deriving DecidableEq, Repr

inductive Refusal where
  /-- An instruction without its meaning yet, raised by its arm of `exec`; safe. No arm raises it. -/
  | notModelled (mnemonic : String)
deriving DecidableEq, Repr

end Sys2Proof.Machine
end

