-- ==== Sys2Proof/Machine/Ops.lean ====
section
/-! DEFINITION. The shared operations: byte sequences (00_scope.md R12), the buffer memory (10_state.md section 3), and
the acceptance, completion and error of a command (40_command_protocol.md R151 to R153). -/

namespace Sys2Proof.Machine

/-! ### Byte sequences (R12) -/

/-- a ⊕ b, bytewise. On sequences of unequal length it stops at the end of the shorter, which is how the streaming
modes truncate the keystream (R305, R308, R310). -/
def xorBytes (a b : Bytes) : Bytes := List.zipWith (fun x y => x ^^^ y) a b

/-- BE32(v): the four bytes of v, most significant first. -/
def be32 (v : Word) : Bytes :=
  [v.extractLsb' 24 8, v.extractLsb' 16 8, v.extractLsb' 8 8, v.extractLsb' 0 8]

/-- blocks(s): the consecutive 16-byte pieces of s, the last one shorter when 16 does not divide len(s). -/
def blocks (s : Bytes) : List Bytes :=
  (List.range ((s.length + 15) / 16)).map fun j => (s.drop (16 * j)).take 16

/-! ### The buffer memory -/

/-- The byte listed at offset `a`, if any. -/
def Memory.get? (m : Memory) (a : Nat) : Option Byte := m.lookup a

/-- The cells of consecutive bytes from offset `a` on. -/
def cellsFrom : Nat → Bytes → Memory
  | _, [] => []
  | a, b :: bs => (a, b) :: cellsFrom (a + 1) bs

/-- Store `bs` at `base`, `base` + 1, …; every other offset keeps what it holds. -/
def Memory.setRange (m : Memory) (base : Nat) (bs : Bytes) : Memory :=
  m.filter (fun c => decide (c.1 < base)) ++ cellsFrom base bs ++
    m.filter (fun c => decide (base + bs.length ≤ c.1))

/-- The window offset of byte 0 of a buffer (10_state.md section 3). -/
def Buf.base : Buf → Nat
  | .key => 0x0040
  | .iv => 0x0080
  | .state => 0x0090
  | .tag => 0x00A0
  | .roundKey => 0x0100
  | .aad => 0x0200
  | .din => 0x1000
  | .dout => 0x2000
  | .trace => 0x4000

/-- The size of a buffer in bytes (10_state.md section 3). -/
def Buf.size : Buf → Nat
  | .key => 64
  | .iv => 16
  | .state => 16
  | .tag => 16
  | .roundKey => 240
  | .aad => 256
  | .din => 4096
  | .dout => 4112
  | .trace => 2048

def Buf.all : List Buf := [.key, .iv, .state, .tag, .roundKey, .aad, .din, .dout, .trace]

/-- The buffer byte at window offset `a`. One that nothing has written since the last reset has a value which nothing
is known of (R380). -/
def State.byteAt (s : State) (a : Nat) : Byte :=
  match s.mem.get? a with
  | some b => b
  | none => Config.resetByte s.resets a

/-- BUF[i..i+n−1] (R15). -/
def State.bufFrom (s : State) (b : Buf) (i n : Nat) : Bytes :=
  (List.range n).map fun k => s.byteAt (b.base + i + k)

/-- BUF[0..n−1]. -/
def State.buf (s : State) (b : Buf) (n : Nat) : Bytes := s.bufFrom b 0 n

/-- BUF[0..len(bs)−1] <- bs. -/
def State.setBuf (s : State) (b : Buf) (bs : Bytes) : State :=
  { s with mem := s.mem.setRange b.base bs }

/-- BUF[i] <- b. -/
def State.setBufByte (s : State) (bf : Buf) (i : Nat) (b : Byte) : State :=
  { s with mem := s.mem.setRange (bf.base + i) [b] }

/-! ### The life cycle of a command -/

/-- STATUS.BUSY (R56). -/
def State.busy (s : State) : Bool := s.pending.isSome

/-- Acceptance (R151): the word becomes pending, DONE and ERRCODE are cleared. -/
def State.accept (s : State) (w : Word) : State :=
  { s with pending := some w, done := false, errcode := none }

/-- Completion with success (R153), after the command's writes are applied. -/
def State.completeOk (s : State) : State :=
  { s with pending := none, done := true, errcode := none }

/-- Completion with an error (R153, R352): nothing is committed but the code. This is what the engine has in place of
taking an exception (R355). -/
def State.completeErr (s : State) (e : ErrCode) : State :=
  { s with pending := none, done := true, errcode := some e }

/-- Acknowledging a completion, what the engine has in place of a return from an exception (R356): DONE is cleared and
ERRCODE keeps its value. -/
def State.ackDone (s : State) : State := { s with done := false }

/-- The completion step of R153, from the outcome of R152: Ok(U) is the state with the command's writes applied. -/
def finish (s : State) (outcome : Except ErrCode State) : Host.Outcome State Fault Refusal :=
  .next (match outcome with
    | .ok u => u.completeOk
    | .error e => s.completeErr e)

/-- `if not p : raise e` (R17). -/
def require (p : Prop) [Decidable p] (e : ErrCode) : Except ErrCode Unit :=
  if p then .ok () else .error e

/-! ### What commands commit -/

/-- DOUT[0..len(out)−1] <- out; OLEN <- len(out). The rest of DOUT keeps its bytes (R53). -/
def State.commitOut (s : State) (out : Bytes) : State :=
  { s with mem := s.mem.setRange Buf.dout.base out, olen := BitVec.ofNat 13 out.length }

/-- The 240 bytes of ROUNDKEY for a schedule: its bytes, then zeros (R205, R256). -/
def scheduleImage (schedule : List Bytes) : Bytes :=
  schedule.flatten ++ List.replicate (240 - schedule.flatten.length) 0

/-- The schedule commit shared by the three commands of R50. -/
def State.commitSchedule (s : State) (schedule : List Bytes) (nr : Nat) : State :=
  { s with
    mem := s.mem.setRange Buf.roundKey.base (scheduleImage schedule)
    ksValid := true
    ksNr := BitVec.ofNat 4 nr }

/-- KS_VALID and KS_NR become 0; ROUNDKEY keeps its bytes (R50). -/
def State.dropSchedule (s : State) : State := { s with ksValid := false, ksNr := 0 }

/-- STATE[0..15] <- b (R48). -/
def State.commitState (s : State) (b : Bytes) : State := s.setBuf .state b

end Sys2Proof.Machine
end

