-- ==== Sys2Proof/Machine/Flags.lean ====
section
/-! DEFINITION. The STATUS and CTRL registers: the error codes, the STATUS word, write-1-to-clear, and IRQ
(10_state.md R34, R35, R57; 60_exceptions.md R350, R360). -/

namespace Sys2Proof.Machine

/-- The numeric code of an error (R350). -/
def ErrCode.code : ErrCode → Nat
  | .keyLength => 1
  | .blockLength => 2
  | .ivLength => 3
  | .nonceLength => 4
  | .invalidPadding => 5
  | .unsupportedMode => 6
  | .authentication => 7
  | .illegalCmd => 8
  | .range => 9

/-- STATUS.ERRCODE as a number: 0 on success (R350). -/
def State.errcodeValue (s : State) : Nat :=
  match s.errcode with
  | none => 0
  | some e => e.code

/-- STATUS.ERR: always equal to (ERRCODE ≠ 0) (R35). -/
def State.err (s : State) : Bool := s.errcodeValue != 0

/-- A one-bit field at bit `k` of a 32-bit register. -/
def bitAt (b : Bool) (k : Nat) : Word := (BitVec.ofBool b).setWidth 32 <<< k

/-- STATUS as a word (R35): BUSY [0], DONE [1], ERR [2], KS_VALID [3], WDROP [4], ERRCODE [11:8], KS_NR [19:16]. -/
def State.statusWord (s : State) : Word :=
  bitAt s.busy 0 ||| bitAt s.done 1 ||| bitAt s.err 2 ||| bitAt s.ksValid 3 ||| bitAt s.wdrop 4 |||
    (BitVec.ofNat 32 s.errcodeValue <<< 8) ||| (s.ksNr.setWidth 32 <<< 16)

/-- A byte `b` written to byte `k` of STATUS (R35, R84): a 1 in bit 1 clears DONE, a 1 in bit 4 clears WDROP. -/
def State.writeStatusByte (s : State) (k : Nat) (b : Byte) : State :=
  if k = 0 then
    let s := if b.getLsbD 1 then s.ackDone else s
    if b.getLsbD 4 then { s with wdrop := false } else s
  else s

/-- The IRQ output (R360): CTRL.IRQ_EN ∧ STATUS.DONE. -/
def State.irq (s : State) : Bool := s.irqEn && s.done

end Sys2Proof.Machine
end

