-- ==== Sys2Proof/Machine/Operands.lean ====
section
/-! DEFINITION. The operands of the commands, each at its fixed place (40_command_protocol.md R158), and the checks on the
length registers (42_key_schedule.md R201; 46_modes.md R300; 60_exceptions.md R350). -/

namespace Sys2Proof.Machine

/-! ### Operand forms -/

/-- K = KEY[0..KEYLEN−1] (R46, R300). -/
def State.keyBytes (s : State) : Bytes := s.buf .key s.keylen.toNat

/-- X = DIN[0..DLEN−1] (R52, R300). -/
def State.dataIn (s : State) : Bytes := s.buf .din s.dlen.toNat

/-- DIN[0..15], the block of a single-block command (R254). -/
def State.blockIn (s : State) : Bytes := s.buf .din 16

/-- IV[0..15] (R47). -/
def State.ivBytes (s : State) : Bytes := s.buf .iv 16

/-- The nonce IV[0..11] (R47, R306). -/
def State.nonce (s : State) : Bytes := s.buf .iv 12

/-- A = AAD[0..AADLEN−1] (R51, R317). -/
def State.aadBytes (s : State) : Bytes := s.buf .aad s.aadlen.toNat

/-- TAG[0..15] (R49). -/
def State.tagBytes (s : State) : Bytes := s.buf .tag 16

/-- STATE[0..15] (R48). -/
def State.stateBytes (s : State) : Bytes := s.buf .state 16

/-- The XTS data key KEY[0..L/2−1], L = KEYLEN (R312). -/
def State.xtsKey1 (s : State) : Bytes := s.buf .key (s.keylen.toNat / 2)

/-- The XTS tweak key KEY[L/2..L−1] (R312). -/
def State.xtsKey2 (s : State) : Bytes :=
  s.bufFrom .key (s.keylen.toNat / 2) (s.keylen.toNat - s.keylen.toNat / 2)

/-! ### Checks -/

/-- The legal AES key lengths (R201). -/
abbrev aesKeyLength (n : Nat) : Prop := n = 16 ∨ n = 24 ∨ n = 32

/-- The legal XTS key lengths (R312). -/
abbrev xtsKeyLength (n : Nat) : Prop := n = 32 ∨ n = 48 ∨ n = 64

/-- check_key(KEYLEN) (R201). -/
def State.checkKey (s : State) : Except ErrCode Unit := require (aesKeyLength s.keylen.toNat) .keyLength

/-- The key check of xts_keys() (R312). -/
def State.checkXtsKey (s : State) : Except ErrCode Unit := require (xtsKeyLength s.keylen.toNat) .keyLength

/-- `if DLEN > 4096 : raise RANGE` (R39, R350). -/
def State.checkData (s : State) : Except ErrCode Unit := require (s.dlen.toNat ≤ Config.maxData) .range

/-- `if DLEN > 4096 or AADLEN > 256 : raise RANGE` (R40, R317). -/
def State.checkDataAad (s : State) : Except ErrCode Unit :=
  require (s.dlen.toNat ≤ Config.maxData ∧ s.aadlen.toNat ≤ Config.maxAad) .range

/-- `if IVLEN ≠ 16 : raise IV_LENGTH` (R303). -/
def State.checkIv (s : State) : Except ErrCode Unit := require (s.ivlen.toNat = 16) .ivLength

/-- `if IVLEN ≠ 12 : raise NONCE_LENGTH` (R306). -/
def State.checkNonce (s : State) : Except ErrCode Unit := require (s.ivlen.toNat = 12) .nonceLength

/-- `if DLEN ≠ 16 : raise BLOCK_LENGTH` (R254). -/
def State.checkOneBlock (s : State) : Except ErrCode Unit := require (s.dlen.toNat = 16) .blockLength

/-- `if DLEN mod 16 ≠ 0 : raise BLOCK_LENGTH` (R302). -/
def State.checkBlocks (s : State) : Except ErrCode Unit := require (s.dlen.toNat % 16 = 0) .blockLength

end Sys2Proof.Machine
end

