-- ==== Sys2Proof/Machine/Bus.lean ====
section
/-! DEFINITION. Host accesses to the register window (20_memory.md). -/

namespace Sys2Proof.Machine

/-! ### The window's map (10_state.md sections 2 and 3; R81) -/

/-- The window offset of a register (10_state.md section 2). -/
def Reg.offset : Reg → Nat
  | .id => 0x0000
  | .cap => 0x0004
  | .ctrl => 0x0008
  | .cmd => 0x000C
  | .status => 0x0010
  | .keylen => 0x0014
  | .ivlen => 0x0018
  | .dlen => 0x001C
  | .aadlen => 0x0020
  | .olen => 0x0024
  | .sector => 0x0028
  | .gfop => 0x002C
  | .gfres => 0x0030
  | .traceCount => 0x0034

def Reg.all : List Reg :=
  [.id, .cap, .ctrl, .cmd, .status, .keylen, .ivlen, .dlen, .aadlen, .olen, .sector, .gfop, .gfres, .traceCount]

/-- What window offset `o` names (R81). The offsets of R55 are those that no register and no buffer takes. -/
def locate (o : Nat) : Place :=
  match Reg.all.find? (fun r => decide (r.offset ≤ o) && decide (o < r.offset + 4)) with
  | some r => .reg r (o - r.offset)
  | none =>
    match Buf.all.find? (fun b => decide (b.base ≤ o) && decide (o < b.base + b.size)) with
    | some b => .buf b (o - b.base)
    | none => .reserved

/-- The outputs, whose reads while busy are unspecified (R89). -/
def Place.isOutput : Place → Bool
  | .reg .olen _ | .reg .gfres _ | .reg .traceCount _ => true
  | .buf .state _ | .buf .tag _ | .buf .roundKey _ | .buf .dout _ | .buf .trace _ => true
  | _ => false

/-- The buffers the host may write (R84; 10_state.md section 3). -/
def Buf.hostWritable : Buf → Bool
  | .key | .iv | .state | .tag | .aad | .din => true
  | .roundKey | .dout | .trace => false

/-! ### Bytes of a word -/

/-- Byte `k` of a 32-bit word, w[8k+7:8k] (R81). -/
def byteOf (w : Word) (k : Nat) : Byte := w.extractLsb' (8 * k) 8

/-- `w` with byte `k` replaced. -/
def withByte (w : Word) (k : Nat) (b : Byte) : Word :=
  (w &&& ~~~((0xFF : Word) <<< (8 * k))) ||| (b.setWidth 32 <<< (8 * k))

/-- Σ byte_k · 2^(8k): the first byte is the least significant (R82). -/
def leWord : Bytes → Word
  | [] => 0
  | b :: bs => b.setWidth 32 ||| (leWord bs <<< 8)

/-- v[8k+7:8k] for k = 0..n−1 (R82). -/
def leBytes (v : Word) (n : Nat) : Bytes := (List.range n).map (byteOf v)

/-- The number of bytes of an access (R82). -/
def AccessSize.bytes : AccessSize → Nat
  | .byte => 1
  | .half => 2
  | .word => 4

/-! ### Registers as words -/

/-- The whole value of a register (10_state.md section 2); reserved bits read 0, CMD reads 0. -/
def regWord (s : State) : Reg → Word
  | .id => Config.idValue
  | .cap => Config.capValue
  | .ctrl => bitAt s.irqEn 0
  | .cmd => 0
  | .status => s.statusWord
  | .keylen => s.keylen.setWidth 32
  | .ivlen => s.ivlen.setWidth 32
  | .dlen => s.dlen.setWidth 32
  | .aadlen => s.aadlen.setWidth 32
  | .olen => s.olen.setWidth 32
  | .sector => s.sector
  | .gfop => s.gfop.setWidth 32
  | .gfres => s.gfres.setWidth 32
  | .traceCount => s.traceCount.setWidth 32

/-- The fields of a read-write register take the bits of `w`; reserved bits and read-only registers ignore it (R84).
STATUS has its own rule (`State.writeStatusByte`) and CMD takes no byte (R87). -/
def State.setReg (s : State) (r : Reg) (w : Word) : State :=
  match r with
  | .ctrl => { s with irqEn := w.getLsbD 0 }
  | .keylen => { s with keylen := w.setWidth 7 }
  | .ivlen => { s with ivlen := w.setWidth 5 }
  | .dlen => { s with dlen := w.setWidth 13 }
  | .aadlen => { s with aadlen := w.setWidth 9 }
  | .sector => { s with sector := w }
  | .gfop => { s with gfop := w.setWidth 16 }
  | .id | .cap | .cmd | .status | .olen | .gfres | .traceCount => s

/-! ### Reads -/

/-- The value a place holds (R81): a reserved byte reads 0 (R85). -/
def State.placeByte (s : State) : Place → Byte
  | .reg r k => byteOf (regWord s r) k
  | .buf b i => s.byteAt (b.base + i)
  | .reserved => 0

/-- The byte that a read of offset `o` returns, and the number of draws after it, `d` before. An output read while busy
is a fresh draw (R89), reserved bits of an output register among it (log 10). -/
def State.busByte (s : State) (o d : Nat) : Byte × Nat :=
  if s.busy && (locate o).isOutput then (Config.busyByte d, d + 1) else (s.placeByte (locate o), d)

/-- The bytes of offsets o, o+1, …, n of them, and the number of draws after them. -/
def State.busBytes (s : State) : Nat → Nat → Nat → Bytes × Nat
  | _, 0, d => ([], d)
  | o, n + 1, d =>
    let first := s.busByte o d
    let rest := s.busBytes (o + 1) n first.2
    (first.1 :: rest.1, rest.2)

/-- The bus answers the host. -/
def State.respond (s : State) (r : Response) : State := { s with response := some r }

/-- MemRead(offset, n) (R82, R83, R86, R89). -/
def State.hostRead (s : State) (offset : BitVec 15) (size : AccessSize) : State :=
  if offset.toNat % size.bytes ≠ 0 then s.respond .busError
  else
    let r := s.busBytes offset.toNat size.bytes s.draws
    { s.respond (.data (leWord r.1)) with draws := r.2 }

/-! ### Writes -/

/-- The effect of one written byte that is not dropped (R84). -/
def State.writePlace (s : State) (p : Place) (b : Byte) : State :=
  match p with
  | .reg .status k => s.writeStatusByte k b
  | .reg .keylen k => (s.setReg .keylen (withByte (regWord s .keylen) k b)).dropSchedule
  | .reg r k => s.setReg r (withByte (regWord s r) k b)
  | .buf .key i => (s.setBufByte .key i b).dropSchedule
  | .buf bf i => if bf.hostWritable then s.setBufByte bf i b else s
  | .reserved => s

/-- The bytes presented to offsets o, o+1, … applied one by one (R82, R84). -/
def State.writeBytes (s : State) : Nat → Bytes → State
  | _, [] => s
  | o, b :: bs => (s.writePlace (locate o) b).writeBytes (o + 1) bs

/-- The offsets of CTRL and STATUS, which take writes while busy (R88). -/
def writableWhileBusy (o : Nat) : Bool :=
  (decide (0x0008 ≤ o) && decide (o < 0x000C)) || (decide (0x0010 ≤ o) && decide (o < 0x0014))

/-- The effect of an aligned write (R84, R87, R88). -/
def State.alignedWrite (s : State) (o : Nat) (size : AccessSize) (v : Word) : State :=
  if s.busy = true ∧ writableWhileBusy o = false then { s with wdrop := true }
  else if 0x000C ≤ o ∧ o < 0x0010 then
    if size = .word then s.accept v else s
  else s.writeBytes o (leBytes v size.bytes)

/-- MemWrite(offset, n, v) (R82 to R88). -/
def State.hostWrite (s : State) (offset : BitVec 15) (size : AccessSize) (v : Word) : State :=
  if offset.toNat % size.bytes ≠ 0 then s.respond .busError
  else (s.alignedWrite offset.toNat size v).respond .ack

end Sys2Proof.Machine
end

