-- ==== Sys2Proof/Machine/Gf.lean ====
section
/-! DEFINITION. The GF(2^8) multiplier and GF_MUL (41_constants_gf.md R184 to R186). -/

namespace Sys2Proof.Machine

/-- Multiplication by x modulo x⁸+x⁴+x³+x+1 (R184, R185): shift left, and fold in 0x1B when bit 7 goes out. -/
def xtime (a : Byte) : Byte := if a.getLsbD 7 then (a <<< 1) ^^^ 0x1B else a <<< 1

/-- The loop of R185 with `n` rounds to go. -/
def gfMulLoop : Nat → Byte → Byte → Byte → Byte
  | 0, p, _, _ => p
  | n + 1, p, a, b => gfMulLoop n (if b.getLsbD 0 then p ^^^ a else p) (xtime a) (b >>> 1)

/-- gf_mul(a, b) (R185). -/
def gfMul (a b : Byte) : Byte := gfMulLoop 8 0 a b

/-- GF_MUL (R186): GFRES <- gf_mul(GFOP.A, GFOP.B). -/
def execGfMul (s : State) : Host.Outcome State Fault Refusal :=
  finish s (.ok { s with gfres := gfMul (s.gfop.extractLsb' 0 8) (s.gfop.extractLsb' 8 8) })

end Sys2Proof.Machine
end

