-- ==== Sys2Proof/Machine/KeySchedule.lean ====
section
/-! DEFINITION. The key schedule and KEY_EXPAND (42_key_schedule.md). -/

namespace Sys2Proof.Machine

/-- Nk of a key of `len` bytes (R200). -/
def nkOf (len : Nat) : Nat := len / 4

/-- Nr of a key of `len` bytes (R200). -/
def nrOf (len : Nat) : Nat := nkOf len + 6

/-- SubWord (R202). -/
def subWord (t : Bytes) : Bytes := t.map sbox

/-- RotWord: the cyclic left rotation by one byte (R202). -/
def rotWord : Bytes → Bytes
  | [] => []
  | b :: rest => rest ++ [b]

/-- t[0] <- t[0] ⊕ c (R202). -/
def xorFirst (c : Byte) : Bytes → Bytes
  | [] => []
  | b :: rest => (b ^^^ c) :: rest

/-- w_i from w_0 … w_{i−1}, the words so far, for i ≥ Nk (R202). -/
def nextWord (nk : Nat) (ws : List Bytes) : Bytes :=
  let i := ws.length
  let prev := ws.getD (i - 1) []
  let t :=
    if i % nk = 0 then xorFirst (rcon (i / nk - 1)) (subWord (rotWord prev))
    else if nk > 6 ∧ i % nk = 4 then subWord prev
    else prev
  xorBytes t (ws.getD (i - nk) [])

/-- `n` more words of the schedule. -/
def expandLoop (nk : Nat) : Nat → List Bytes → List Bytes
  | 0, ws => ws
  | n + 1, ws => expandLoop nk n (ws ++ [nextWord nk ws])

/-- The words 0..Nk−1: the key split into 4-byte groups (R14, R202). -/
def keyWords (key : Bytes) : List Bytes :=
  (List.range (nkOf key.length)).map fun i => (key.drop (4 * i)).take 4

/-- expand(K): w_0 … w_{4(Nr+1)−1} (R202). -/
def expand (key : Bytes) : List Bytes :=
  expandLoop (nkOf key.length) (4 * (nrOf key.length + 1) - nkOf key.length) (keyWords key)

/-- Round key r of a schedule: words 4r to 4r+3 (R203). -/
def roundKey (schedule : List Bytes) (r : Nat) : Bytes := ((schedule.drop (4 * r)).take 4).flatten

/-- KEY_EXPAND (R205). -/
def execKeyExpand (s : State) : Host.Outcome State Fault Refusal :=
  finish s do
    s.checkKey
    .ok (s.commitSchedule (expand s.keyBytes) (nrOf s.keylen.toNat))

end Sys2Proof.Machine
end

