-- ==== Sys2Proof/Machine/RoundTransform.lean ====
section
/-! DEFINITION. The round transforms on a 16-byte block s, s[4c + r] at row r and column c, and the single-step commands on
STATE (43_round_transform.md). -/

namespace Sys2Proof.Machine

/-! ### The transforms -/

/-- SubBytes (R220). -/
def subBytes (b : Bytes) : Bytes := b.map sbox

/-- InvSubBytes (R221). -/
def invSubBytes (b : Bytes) : Bytes := b.map invSbox

/-- The 16-byte block whose byte i is byte `source i` of `b`. -/
def permute (source : Nat → Nat) (b : Bytes) : Bytes :=
  (List.range 16).map fun i => b.getD (source i) 0

/-- R222: byte 4c + r comes from byte 4((c + r) mod 4) + r. -/
def shiftSource (i : Nat) : Nat := 4 * ((i / 4 + i % 4) % 4) + i % 4

/-- R223: byte 4c + r comes from byte 4((c − r) mod 4) + r. -/
def invShiftSource (i : Nat) : Nat := 4 * ((i / 4 + 4 - i % 4) % 4) + i % 4

/-- ShiftRows (R222). -/
def shiftRows (b : Bytes) : Bytes := permute shiftSource b

/-- InvShiftRows (R223). -/
def invShiftRows (b : Bytes) : Bytes := permute invShiftSource b

/-- Each column of four bytes times the circulant matrix of first row m0 m1 m2 m3, each row the one above rotated right
by one (R224, R225). -/
def circulant (m0 m1 m2 m3 : Byte) : Bytes → Bytes
  | a0 :: a1 :: a2 :: a3 :: rest =>
    (gfMul m0 a0 ^^^ gfMul m1 a1 ^^^ gfMul m2 a2 ^^^ gfMul m3 a3) ::
    (gfMul m3 a0 ^^^ gfMul m0 a1 ^^^ gfMul m1 a2 ^^^ gfMul m2 a3) ::
    (gfMul m2 a0 ^^^ gfMul m3 a1 ^^^ gfMul m0 a2 ^^^ gfMul m1 a3) ::
    (gfMul m1 a0 ^^^ gfMul m2 a1 ^^^ gfMul m3 a2 ^^^ gfMul m0 a3) ::
    circulant m0 m1 m2 m3 rest
  | _ => []

/-- MixColumns (R224). -/
def mixColumns (b : Bytes) : Bytes := circulant 0x02 0x03 0x01 0x01 b

/-- InvMixColumns (R225). -/
def invMixColumns (b : Bytes) : Bytes := circulant 0x0e 0x0b 0x0d 0x09 b

/-- AddRoundKey (R226). -/
def addRoundKey (b k : Bytes) : Bytes := xorBytes b k

/-! ### The single-step commands -/

/-- The shared form of R230 to R235: STATE[0..15] <- f(STATE[0..15]). -/
def stepState (f : Bytes → Bytes) (s : State) : Host.Outcome State Fault Refusal :=
  finish s (.ok (s.commitState (f s.stateBytes)))

/-- SUB_BYTES (R230). -/
def execSubBytes (s : State) : Host.Outcome State Fault Refusal := stepState subBytes s

/-- INV_SUB_BYTES (R231). -/
def execInvSubBytes (s : State) : Host.Outcome State Fault Refusal := stepState invSubBytes s

/-- SHIFT_ROWS (R232). -/
def execShiftRows (s : State) : Host.Outcome State Fault Refusal := stepState shiftRows s

/-- INV_SHIFT_ROWS (R233). -/
def execInvShiftRows (s : State) : Host.Outcome State Fault Refusal := stepState invShiftRows s

/-- MIX_COLUMNS (R234). -/
def execMixColumns (s : State) : Host.Outcome State Fault Refusal := stepState mixColumns s

/-- INV_MIX_COLUMNS (R235). -/
def execInvMixColumns (s : State) : Host.Outcome State Fault Refusal := stepState invMixColumns s

/-- ADD_ROUND_KEY r (R236). -/
def execAddRoundKey (r : Nat) (s : State) : Host.Outcome State Fault Refusal :=
  finish s do
    s.checkKey
    require (r ≤ nrOf s.keylen.toNat) .range
    .ok (s.commitState (addRoundKey s.stateBytes (roundKey (expand s.keyBytes) r)))

end Sys2Proof.Machine
end

