-- ==== Sys2Proof/Machine/BlockCipher.lean ====
section
/-! DEFINITION. The block cipher, its trace, and the block commands (44_block_cipher.md). -/

namespace Sys2Proof.Machine

/-- The operations a trace record names, in the order of their codes (R54). -/
inductive TraceOp where
  | addRoundKey | subBytes | shiftRows | mixColumns | invSubBytes | invShiftRows | invMixColumns
deriving DecidableEq, Repr

/-- The operation codes 1 to 7 of R54. -/
def TraceOp.code : TraceOp → Byte
  | .addRoundKey => 1
  | .subBytes => 2
  | .shiftRows => 3
  | .mixColumns => 4
  | .invSubBytes => 5
  | .invShiftRows => 6
  | .invMixColumns => 7

/-- One emitted step of R250 or R251: its round label and its operation. -/
structure CipherStep where
  round : Nat
  op : TraceOp
deriving DecidableEq, Repr

/-- One record of the trace (R252). -/
structure TraceRecord where
  round : Nat
  op : TraceOp
  state : Bytes
deriving DecidableEq, Repr

/-- The state after one step. The label of an AddRoundKey step is the index of its round key (R250, R251). -/
def CipherStep.apply (schedule : List Bytes) (st : CipherStep) (b : Bytes) : Bytes :=
  match st.op with
  | .addRoundKey => addRoundKey b (roundKey schedule st.round)
  | .subBytes => subBytes b
  | .shiftRows => shiftRows b
  | .mixColumns => mixColumns b
  | .invSubBytes => invSubBytes b
  | .invShiftRows => invShiftRows b
  | .invMixColumns => invMixColumns b

/-- A middle round r of E (R250). -/
def encRound (r : Nat) : List CipherStep :=
  [⟨r, .subBytes⟩, ⟨r, .shiftRows⟩, ⟨r, .mixColumns⟩, ⟨r, .addRoundKey⟩]

/-- The steps of E in the order of R250, rounds 1 to Nr−1 between the first and the last group. -/
def encSteps (nr : Nat) : List CipherStep :=
  [⟨0, .addRoundKey⟩] ++ (List.range' 1 (nr - 1)).flatMap encRound ++
    [⟨nr, .subBytes⟩, ⟨nr, .shiftRows⟩, ⟨nr, .addRoundKey⟩]

/-- The group of round key r of D (R251). -/
def decRound (r : Nat) : List CipherStep :=
  [⟨r, .invShiftRows⟩, ⟨r, .invSubBytes⟩, ⟨r, .addRoundKey⟩, ⟨r, .invMixColumns⟩]

/-- The steps of D in the order of R251, round keys Nr−1 down to 1 between the first and the last group. InvMixColumns
follows neither round key Nr nor round key 0 (C1). -/
def decSteps (nr : Nat) : List CipherStep :=
  [⟨nr, .addRoundKey⟩] ++ (List.range' 1 (nr - 1)).reverse.flatMap decRound ++
    [⟨0, .invShiftRows⟩, ⟨0, .invSubBytes⟩, ⟨0, .addRoundKey⟩]

/-- The state after all of `steps`. -/
def runSteps (schedule : List Bytes) : List CipherStep → Bytes → Bytes
  | [], b => b
  | st :: rest, b => runSteps schedule rest (st.apply schedule b)

/-- The trace of `steps`: one record after each (R252, R253). -/
def traceSteps (schedule : List Bytes) : List CipherStep → Bytes → List TraceRecord
  | [], _ => []
  | st :: rest, b =>
    let b' := st.apply schedule b
    ⟨st.round, st.op, b'⟩ :: traceSteps schedule rest b'

/-- E(K, b) (R250). -/
def encryptBlock (key b : Bytes) : Bytes := runSteps (expand key) (encSteps (nrOf key.length)) b

/-- D(K, b) (R251). -/
def decryptBlock (key b : Bytes) : Bytes := runSteps (expand key) (decSteps (nrOf key.length)) b

/-- The trace of E(K, b) (R252). -/
def encryptTrace (key b : Bytes) : List TraceRecord :=
  traceSteps (expand key) (encSteps (nrOf key.length)) b

/-- The trace of D(K, b) (R253). -/
def decryptTrace (key b : Bytes) : List TraceRecord :=
  traceSteps (expand key) (decSteps (nrOf key.length)) b

/-- The 32 bytes of a record (R54, R256). -/
def TraceRecord.bytes (t : TraceRecord) : Bytes :=
  [BitVec.ofNat 8 t.round, t.op.code, 0, 0] ++ t.state ++ List.replicate 12 0

/-- The 2048 bytes of TRACE for a trace: its records, then zeros (R256). -/
def traceImage (trace : List TraceRecord) : Bytes :=
  trace.flatMap TraceRecord.bytes ++ List.replicate (2048 - 32 * trace.length) 0

/-- The trace commit (R256). -/
def State.commitTrace (s : State) (key : Bytes) (trace : List TraceRecord) : State :=
  { (s.setBuf .trace (traceImage trace)).commitSchedule (expand key) (nrOf key.length) with
    traceCount := BitVec.ofNat 7 trace.length }

/-- The checks of the block commands, in order: KEY_LENGTH, RANGE, BLOCK_LENGTH (R254, R255). -/
def State.checkBlockCommand (s : State) : Except ErrCode Unit := do
  s.checkKey
  s.checkData
  s.checkOneBlock

/-- BLOCK_ENC (R254). -/
def execBlockEnc (s : State) : Host.Outcome State Fault Refusal :=
  finish s do
    s.checkBlockCommand
    .ok (s.commitOut (encryptBlock s.keyBytes s.blockIn))

/-- BLOCK_DEC (R255). -/
def execBlockDec (s : State) : Host.Outcome State Fault Refusal :=
  finish s do
    s.checkBlockCommand
    .ok (s.commitOut (decryptBlock s.keyBytes s.blockIn))

/-- BLOCK_ENC.T (R257). -/
def execBlockEncT (s : State) : Host.Outcome State Fault Refusal :=
  finish s do
    s.checkBlockCommand
    .ok ((s.commitOut (encryptBlock s.keyBytes s.blockIn)).commitTrace s.keyBytes
      (encryptTrace s.keyBytes s.blockIn))

/-- BLOCK_DEC.T (R258). -/
def execBlockDecT (s : State) : Host.Outcome State Fault Refusal :=
  finish s do
    s.checkBlockCommand
    .ok ((s.commitOut (decryptBlock s.keyBytes s.blockIn)).commitTrace s.keyBytes
      (decryptTrace s.keyBytes s.blockIn))

end Sys2Proof.Machine
end

