-- ==== Sys2Proof/Machine/Padding.lean ====
section
/-! DEFINITION. The PKCS7 padder, PAD and UNPAD (45_padding.md). -/

namespace Sys2Proof.Machine

/-- How many bytes pad adds: 16 − (len mod 16), 1 to 16 (R280). -/
def padCount (len : Nat) : Nat := 16 - len % 16

/-- pad(d) (R280). -/
def padBytes (d : Bytes) : Bytes :=
  d ++ List.replicate (padCount d.length) (BitVec.ofNat 8 (padCount d.length))

/-- unpad(d) (R281). Empty input has no last byte and fails (D42). -/
def unpadBytes (d : Bytes) : Except ErrCode Bytes :=
  match d.getLast? with
  | none => .error .invalidPadding
  | some last =>
    let n := last.toNat
    if n < 1 ∨ 16 < n ∨ d.length < n then .error .invalidPadding
    else if (d.drop (d.length - n)).all (fun x => x == last) then .ok (d.take (d.length - n))
    else .error .invalidPadding

/-- PAD (R282). -/
def execPad (s : State) : Host.Outcome State Fault Refusal :=
  finish s do
    s.checkData
    .ok (s.commitOut (padBytes s.dataIn))

/-- UNPAD (R283). -/
def execUnpad (s : State) : Host.Outcome State Fault Refusal :=
  finish s do
    s.checkData
    let out ← unpadBytes s.dataIn
    .ok (s.commitOut out)

end Sys2Proof.Machine
end

