-- ==== Sys2Proof/Machine/Modes.lean ====
section
/-! DEFINITION. The block modes (46_modes.md). Each mode is a stateless composition over the block cipher: `e` is E(K, ·)
and `d` is D(K, ·). -/

namespace Sys2Proof.Machine

/-! ### ECB (R301, R302) -/

/-- Every block through `f`, in order: ⧺_j f(X_j). -/
def ecbBlocks (f : Bytes → Bytes) (x : Bytes) : Bytes := (blocks x).flatMap f

/-- ECB_ENC (R301). -/
def execEcbEnc (s : State) : Host.Outcome State Fault Refusal :=
  finish s do
    s.checkKey
    s.checkData
    .ok (s.commitOut (ecbBlocks (encryptBlock s.keyBytes) (padBytes s.dataIn)))

/-- ECB_DEC (R302). -/
def execEcbDec (s : State) : Host.Outcome State Fault Refusal :=
  finish s do
    s.checkKey
    s.checkData
    s.checkBlocks
    let out ← unpadBytes (ecbBlocks (decryptBlock s.keyBytes) s.dataIn)
    .ok (s.commitOut out)

/-! ### CBC (R303, R304) -/

/-- The loop of R303 from `prev` on. -/
def cbcEncBlocks (e : Bytes → Bytes) : Bytes → List Bytes → Bytes
  | _, [] => []
  | prev, q :: qs => e (xorBytes q prev) ++ cbcEncBlocks e (e (xorBytes q prev)) qs

/-- The loop of R304 from `prev` on. -/
def cbcDecBlocks (d : Bytes → Bytes) : Bytes → List Bytes → Bytes
  | _, [] => []
  | prev, x :: xs => xorBytes (d x) prev ++ cbcDecBlocks d x xs

/-- CBC_ENC (R303). -/
def execCbcEnc (s : State) : Host.Outcome State Fault Refusal :=
  finish s do
    s.checkKey
    s.checkData
    s.checkIv
    .ok (s.commitOut (cbcEncBlocks (encryptBlock s.keyBytes) s.ivBytes (blocks (padBytes s.dataIn))))

/-- CBC_DEC (R304). -/
def execCbcDec (s : State) : Host.Outcome State Fault Refusal :=
  finish s do
    s.checkKey
    s.checkData
    s.checkIv
    s.checkBlocks
    let out ← unpadBytes (cbcDecBlocks (decryptBlock s.keyBytes) s.ivBytes (blocks s.dataIn))
    .ok (s.commitOut out)

/-! ### CTR (R305 to R307) -/

/-- Blocks j, j+1, … of the CTR keystream applied to the pieces of the data (R305). -/
def ctrBlocks (e : Bytes → Bytes) (nonce : Bytes) : Nat → List Bytes → Bytes
  | _, [] => []
  | j, x :: xs => xorBytes x (e (nonce ++ be32 (BitVec.ofNat 32 j))) ++ ctrBlocks e nonce (j + 1) xs

/-- CTR(K, N, X) (R305). -/
def ctrStream (e : Bytes → Bytes) (nonce x : Bytes) : Bytes := ctrBlocks e nonce 0 (blocks x)

/-- The body of CTR_ENC, which CTR_DEC repeats (R306, R307). -/
def ctrCommand (s : State) : Except ErrCode State := do
  s.checkKey
  s.checkData
  s.checkNonce
  .ok (s.commitOut (ctrStream (encryptBlock s.keyBytes) s.nonce s.dataIn))

/-- CTR_ENC (R306). -/
def execCtrEnc (s : State) : Host.Outcome State Fault Refusal := finish s (ctrCommand s)

/-- CTR_DEC (R307): the identical operation. -/
def execCtrDec (s : State) : Host.Outcome State Fault Refusal := finish s (ctrCommand s)

/-! ### CFB (R308, R309) -/

/-- The loop of R308: the ciphertext is fed back. -/
def cfbEncBlocks (e : Bytes → Bytes) : Bytes → List Bytes → Bytes
  | _, [] => []
  | fb, x :: xs => xorBytes x (e fb) ++ cfbEncBlocks e (xorBytes x (e fb)) xs

/-- The loop of R309: the given ciphertext is fed back. -/
def cfbDecBlocks (e : Bytes → Bytes) : Bytes → List Bytes → Bytes
  | _, [] => []
  | fb, x :: xs => xorBytes x (e fb) ++ cfbDecBlocks e x xs

/-- CFB_ENC (R308). -/
def execCfbEnc (s : State) : Host.Outcome State Fault Refusal :=
  finish s do
    s.checkKey
    s.checkData
    s.checkIv
    .ok (s.commitOut (cfbEncBlocks (encryptBlock s.keyBytes) s.ivBytes (blocks s.dataIn)))

/-- CFB_DEC (R309): decryption uses E. -/
def execCfbDec (s : State) : Host.Outcome State Fault Refusal :=
  finish s do
    s.checkKey
    s.checkData
    s.checkIv
    .ok (s.commitOut (cfbDecBlocks (encryptBlock s.keyBytes) s.ivBytes (blocks s.dataIn)))

/-! ### OFB (R310, R311) -/

/-- The loop of R310: the keystream is encrypted again. -/
def ofbBlocks (e : Bytes → Bytes) : Bytes → List Bytes → Bytes
  | _, [] => []
  | fb, x :: xs => xorBytes x (e fb) ++ ofbBlocks e (e fb) xs

/-- The body of OFB_ENC, which OFB_DEC repeats (R310, R311). -/
def ofbCommand (s : State) : Except ErrCode State := do
  s.checkKey
  s.checkData
  s.checkIv
  .ok (s.commitOut (ofbBlocks (encryptBlock s.keyBytes) s.ivBytes (blocks s.dataIn)))

/-- OFB_ENC (R310). -/
def execOfbEnc (s : State) : Host.Outcome State Fault Refusal := finish s (ofbCommand s)

/-- OFB_DEC (R311): the same operation. -/
def execOfbDec (s : State) : Host.Outcome State Fault Refusal := finish s (ofbCommand s)

/-! ### XTS (R312 to R315) -/

/-- The shift of mulα (R313), byte 0 the least significant: each byte takes the bit carried out of the one before. -/
def shiftLeftBytes : Bool → Bytes → Bytes
  | _, [] => []
  | carry, b :: bs => ((b <<< 1) ||| (BitVec.ofBool carry).setWidth 8) :: shiftLeftBytes (b.getLsbD 7) bs

/-- mulα(t) (R313). -/
def mulAlpha (t : Bytes) : Bytes :=
  if (t.getLastD 0).getLsbD 7 then xorFirst 0x87 (shiftLeftBytes false t) else shiftLeftBytes false t

/-- The tweak block fill(12, 0) ‖ BE32(n) (R313, D26). -/
def tweakBlock (n : Word) : Bytes := List.replicate 12 0 ++ be32 n

/-- T_j (R313), `e2` being E(K2, ·). -/
def xtsTweak (schedule : XtsTweakSchedule) (e2 : Bytes → Bytes) (sector : Word) : Nat → Bytes
  | 0 => e2 (tweakBlock sector)
  | j + 1 =>
    match schedule with
    | .alpha => mulAlpha (xtsTweak schedule e2 sector j)
    | .sectorIncrement => e2 (tweakBlock (sector + BitVec.ofNat 32 (j + 1)))
    | .constant => e2 (tweakBlock sector)

/-- f(X_j ⊕ T_j) ⊕ T_j for blocks j, j+1, …, T_j = `tweak j` (R314, R315). -/
def xtsBlocks (f : Bytes → Bytes) (tweak : Nat → Bytes) : Nat → List Bytes → Bytes
  | _, [] => []
  | j, x :: xs => xorBytes (f (xorBytes x (tweak j))) (tweak j) ++ xtsBlocks f tweak (j + 1) xs

/-- The tweaks of the command that runs in `s`. -/
def State.xtsTweaks (s : State) : Nat → Bytes :=
  xtsTweak s.params.xtsTweakSchedule (encryptBlock s.xtsKey2) s.sector

/-- `pad(X)` or X itself, by XTS_PAD_POLICY (R314). -/
def xtsPad (policy : XtsPadPolicy) (x : Bytes) : Bytes :=
  if policy = .always ∨ x.length % 16 ≠ 0 then padBytes x else x

/-- `unpad(Y)` or Y itself, by XTS_PAD_POLICY (R315). -/
def xtsUnpad (policy : XtsPadPolicy) (y : Bytes) : Except ErrCode Bytes :=
  if policy = .always then unpadBytes y else .ok y

/-- XTS_ENC (R314). -/
def execXtsEnc (s : State) : Host.Outcome State Fault Refusal :=
  finish s do
    s.checkXtsKey
    s.checkData
    .ok (s.commitOut (xtsBlocks (encryptBlock s.xtsKey1) s.xtsTweaks 0
      (blocks (xtsPad s.params.xtsPadPolicy s.dataIn))))

/-- XTS_DEC (R315). -/
def execXtsDec (s : State) : Host.Outcome State Fault Refusal :=
  finish s do
    s.checkXtsKey
    s.checkData
    s.checkBlocks
    let out ← xtsUnpad s.params.xtsPadPolicy
      (xtsBlocks (decryptBlock s.xtsKey1) s.xtsTweaks 0 (blocks s.dataIn))
    .ok (s.commitOut out)

/-! ### GCM-S (R316 to R319) -/

/-- tag(K, P, A) = KEYED_HASH(K, P ‖ A) (R316). -/
def gcmTag (key plain aad : Bytes) : Bytes := (Config.keyedHash key (plain ++ aad)).toList

/-- CTR(K, IV[0..11], X), the cipher part of GCM-S (R316). -/
def State.gcmStream (s : State) : Bytes := ctrStream (encryptBlock s.keyBytes) s.nonce s.dataIn

/-- The checks shared by the GCM-S commands, in order: KEY_LENGTH, RANGE, NONCE_LENGTH (R317 to R319). -/
def State.checkGcm (s : State) : Except ErrCode Unit := do
  s.checkKey
  s.checkDataAad
  s.checkNonce

/-- GCM_ENC (R317). -/
def execGcmEnc (s : State) : Host.Outcome State Fault Refusal :=
  finish s do
    s.checkGcm
    .ok ((s.commitOut s.gcmStream).setBuf .tag (gcmTag s.keyBytes s.dataIn s.aadBytes))

/-- GCM_DEC (R318): the recomputed tag is compared with TAG, all 16 bytes. -/
def execGcmDec (s : State) : Host.Outcome State Fault Refusal :=
  finish s do
    s.checkGcm
    require (gcmTag s.keyBytes s.gcmStream s.aadBytes = s.tagBytes) .authentication
    .ok (s.commitOut s.gcmStream)

/-- GCM_DEC.NV (R319): no tag check, but AADLEN is still checked. -/
def execGcmDecNv (s : State) : Host.Outcome State Fault Refusal :=
  finish s do
    s.checkGcm
    .ok (s.commitOut s.gcmStream)

end Sys2Proof.Machine
end

