-- ==== Sys2Proof/Machine/System.lean ====
section
/-! DEFINITION. CLEAR (40_command_protocol.md R160) and the words of an unrecognised mode (46_modes.md R320). -/

namespace Sys2Proof.Machine

/-- BUF <- fill(size, 0) (R160). -/
def State.zeroBuf (s : State) (b : Buf) : State := s.setBuf b (List.replicate b.size 0)

/-- All nine buffers zeroed (R160). -/
def State.zeroBuffers (s : State) : State := Buf.all.foldl State.zeroBuf s

/-- CLEAR (R160). CTRL, KEYLEN, IVLEN, DLEN, AADLEN, SECTOR and GFOP keep their values. -/
def execClear (s : State) : Host.Outcome State Fault Refusal :=
  finish s (.ok { s.zeroBuffers.dropSchedule with olen := 0, gfres := 0, traceCount := 0 })

/-- MODE_ENC with MODE = 7: completes with UNSUPPORTED_MODE (R320). -/
def execModeEncUnsupported7 (s : State) : Host.Outcome State Fault Refusal :=
  finish s (.error .unsupportedMode)

/-- MODE_ENC with MODE 8 to 15: completes with UNSUPPORTED_MODE (R320). -/
def execModeEncUnsupported8to15 (_mode : Nat) (s : State) : Host.Outcome State Fault Refusal :=
  finish s (.error .unsupportedMode)

/-- MODE_DEC with MODE = 7, whatever NOVERIFY: completes with UNSUPPORTED_MODE (R320). -/
def execModeDecUnsupported7 (_nv : Bool) (s : State) : Host.Outcome State Fault Refusal :=
  finish s (.error .unsupportedMode)

/-- MODE_DEC with MODE 8 to 15, whatever NOVERIFY: completes with UNSUPPORTED_MODE (R320). -/
def execModeDecUnsupported8to15 (_mode : Nat) (_nv : Bool) (s : State) : Host.Outcome State Fault Refusal :=
  finish s (.error .unsupportedMode)

end Sys2Proof.Machine
end

