-- ==== Sys2Proof/Machine/Dispatch.lean ====
section
/-! DEFINITION. One arm per command: which meaning it has (30_encoding.md R118). -/

namespace Sys2Proof.Machine

def exec (i : Instr) (s : State) : Host.Outcome State Fault Refusal :=
  match i with
  | .keyExpand => Sys2Proof.Machine.execKeyExpand s
  | .blockEnc => Sys2Proof.Machine.execBlockEnc s
  | .blockDec => Sys2Proof.Machine.execBlockDec s
  | .blockEncT => Sys2Proof.Machine.execBlockEncT s
  | .blockDecT => Sys2Proof.Machine.execBlockDecT s
  | .ecbEnc => Sys2Proof.Machine.execEcbEnc s
  | .cbcEnc => Sys2Proof.Machine.execCbcEnc s
  | .ctrEnc => Sys2Proof.Machine.execCtrEnc s
  | .cfbEnc => Sys2Proof.Machine.execCfbEnc s
  | .ofbEnc => Sys2Proof.Machine.execOfbEnc s
  | .xtsEnc => Sys2Proof.Machine.execXtsEnc s
  | .gcmEnc => Sys2Proof.Machine.execGcmEnc s
  | .ecbDec => Sys2Proof.Machine.execEcbDec s
  | .cbcDec => Sys2Proof.Machine.execCbcDec s
  | .ctrDec => Sys2Proof.Machine.execCtrDec s
  | .cfbDec => Sys2Proof.Machine.execCfbDec s
  | .ofbDec => Sys2Proof.Machine.execOfbDec s
  | .xtsDec => Sys2Proof.Machine.execXtsDec s
  | .gcmDec => Sys2Proof.Machine.execGcmDec s
  | .gcmDecNv => Sys2Proof.Machine.execGcmDecNv s
  | .pad => Sys2Proof.Machine.execPad s
  | .unpad => Sys2Proof.Machine.execUnpad s
  | .gfMul => Sys2Proof.Machine.execGfMul s
  | .clear => Sys2Proof.Machine.execClear s
  | .subBytes => Sys2Proof.Machine.execSubBytes s
  | .invSubBytes => Sys2Proof.Machine.execInvSubBytes s
  | .shiftRows => Sys2Proof.Machine.execShiftRows s
  | .invShiftRows => Sys2Proof.Machine.execInvShiftRows s
  | .mixColumns => Sys2Proof.Machine.execMixColumns s
  | .invMixColumns => Sys2Proof.Machine.execInvMixColumns s
  | .addRoundKey r => Sys2Proof.Machine.execAddRoundKey r s
  | .modeEncUnsupported7 => Sys2Proof.Machine.execModeEncUnsupported7 s
  | .modeEncUnsupported8to15 mode => Sys2Proof.Machine.execModeEncUnsupported8to15 mode s
  | .modeDecUnsupported7 nv => Sys2Proof.Machine.execModeDecUnsupported7 nv s
  | .modeDecUnsupported8to15 mode nv => Sys2Proof.Machine.execModeDecUnsupported8to15 mode nv s

end Sys2Proof.Machine
end

