-- ==== Sys2Proof/Machine/Engine.lean ====
section
/-! DEFINITION. The steps of the three agents: the Engine's turn, a host access, reset (40_command_protocol.md R150 to
R154; 70_reset_and_hazards.md R380, R381). -/

namespace Sys2Proof.Machine

/-- The error code that a decode failure reports (R112). -/
def codeOfDecode : DecodeError → ErrCode
  | .illegalCmd => .illegalCmd

/-- exec(w, S) and its completion (R152, R153): a word that decodes to an error is reported like any other error.
The command is evaluated at completion (log 14). -/
def completeWord (w : Word) (s : State) : Host.Outcome State Fault Refusal :=
  match decode w with
  | .ok i => exec i s
  | .error e => finish s (.error (codeOfDecode e))

/-- The Engine's turn: it completes the pending command; idle, it does nothing (R150, R375). -/
def engineTurn (s : State) : Host.Outcome State Fault Refusal :=
  match s.pending with
  | some w => completeWord w s
  | none => .next s

/-- Reset (R380): a pending command is abandoned (R381). The parameters are the machine's, the schedule is the
outside world's, and free values are never drawn twice (logs 2, 3, 5, 6, 12). -/
def State.resetNow (s : State) : State :=
  { State.reset with
    params := s.params
    schedule := s.schedule
    resets := s.resets + 1
    draws := s.draws }

/-- One step of the total order of R93. -/
def eventStep (e : Event) (s : State) : Host.Outcome State Fault Refusal :=
  match e with
  | .hostRead offset size => .next (s.hostRead offset size)
  | .hostWrite offset size v => .next (s.hostWrite offset size v)
  | .engine => engineTurn s
  | .reset => .next s.resetNow

end Sys2Proof.Machine
end

