-- ==== Sys2Proof/Machine/Step.lean ====
section
/-! DEFINITION. One step of the machine: the next step of the schedule, or, when nothing is scheduled, the Engine's turn,
so that every accepted command completes (40_command_protocol.md R154, log 6). -/

namespace Sys2Proof.Machine

def step (s : State) : Host.Outcome State Fault Refusal :=
  match s.schedule with
  | [] => engineTurn s
  | e :: rest => eventStep e { s with schedule := rest }

/-- `s` with the command word that the `nbits` bits `w` stand for accepted (R151), and the Engine's turn next: the very
next step runs it. The engine fetches nothing (R31, R96); this stands for the host's write to CMD (log 6). -/
def State.withFetchWord (s : State) (nbits w : Nat) : State :=
  { s.accept (BitVec.ofNat 32 (w % 2 ^ nbits)) with schedule := .engine :: s.schedule }

end Sys2Proof.Machine
end

