-- ==== Sys2Proof/Safety.lean ====
section
/-! DEFINITION. What counts as a safe state and a safe run of the engine. -/

namespace Sys2Proof.Machine

/-- The schedule flags agree with each other (R35): KS_NR is Nr of some key size when KS_VALID = 1, and 0 otherwise. -/
abbrev State.ksConsistent (s : State) : Prop :=
  (s.ksValid = true ∧ (s.ksNr = 10 ∨ s.ksNr = 12 ∨ s.ksNr = 14)) ∨ (s.ksValid = false ∧ s.ksNr = 0)

/-- The output counters stay in their ranges: OLEN 0..4112 (R41), TRACE_COUNT 0..64 (R45). -/
abbrev State.countersInRange (s : State) : Prop := s.olen.toNat ≤ 4112 ∧ s.traceCount.toNat ≤ 64

/-- While a command is pending no completion is reported: DONE = 0 and ERRCODE = 0 (R151). -/
abbrev State.busyIsClean (s : State) : Prop := s.pending.isSome = true → s.done = false ∧ s.errcode = none

/-- Every listed cell is a byte of a buffer (10_state.md section 3). -/
abbrev State.memInBuffers (s : State) : Prop :=
  ∀ c ∈ s.mem, ∃ b ∈ Buf.all, b.base ≤ c.1 ∧ c.1 < b.base + b.size

/-- What KS_VALID = 1 promises (R35, R50): KS_NR is Nr of the current KEYLEN, ROUNDKEY[0..16(Nr+1)−1] is the schedule of
KEY[0..KEYLEN−1] and the rest of ROUNDKEY is 0. -/
abbrev State.roundKeyMatchesKey (s : State) : Prop :=
  s.ksValid = true →
    aesKeyLength s.keylen.toNat ∧ s.ksNr.toNat = nrOf s.keylen.toNat ∧
      s.buf .roundKey (16 * (s.ksNr.toNat + 1)) = (expand s.keyBytes).flatten ∧
      ∀ j, j < Buf.roundKey.size → 16 * (s.ksNr.toNat + 1) ≤ j → s.byteAt (Buf.roundKey.base + j) = 0

/-- The invariant of the engine: true after reset, kept by every step. -/
structure State.Inv (s : State) : Prop where
  memCanonical : s.mem.wf
  memInBuffers : s.memInBuffers
  schedule : s.ksConsistent
  roundKey : s.roundKeyMatchesKey
  counters : s.countersInRange
  busy : s.busyIsClean

/-- A step that neither faults nor refuses (R354: no error leaves the engine stuck). -/
def State.stepsOn (s : State) : Prop := ∃ t, step s = .next t

/-- Every step of a run of `n` steps goes on. -/
def safeRun : Nat → State → Prop
  | 0, _ => True
  | n + 1, s => ∃ t, step s = .next t ∧ safeRun n t

end Sys2Proof.Machine
end

