-- ==== Sys2Proof/Certificates/Slice0/Obligations.lean ====
section
/-! DEFINITION. The statements for the provers, and the few words they are written in. -/

namespace Sys2Proof.Claims

open Sys2Proof Sys2Proof.Machine

/-! ### Words of the statements about commands -/

/-- `exec i s` answers a next state: its registers and flags are those of `f`, and the buffer byte at every offset `a` is
`bytes a`. Nothing is left unsaid: every field of State but the memory is compared whole. -/
def Answers (i : Instr) (s f : State) (bytes : Nat → Byte) : Prop :=
  ∃ t, exec i s = .next t ∧ { t with mem := f.mem } = f ∧ ∀ a, t.byteAt a = bytes a

/-- `s` with the flags of a successful completion (R153). -/
def succeeded (s : State) : State := { s with pending := none, done := true, errcode := none }

/-- The bytes of `s` with `n` bytes from offset `lo` on replaced: byte `lo + k` is `new k`. -/
def overlay (s : State) (lo n : Nat) (new : Nat → Byte) (a : Nat) : Byte :=
  if lo ≤ a ∧ a < lo + n then new (a - lo) else s.byteAt a

/-- `exec i s` completes with success, writes exactly DOUT[0..n−1] = `out` and OLEN = n, and changes nothing else. -/
def AnswersOut (i : Instr) (s : State) (n : Nat) (out : Nat → Byte) : Prop :=
  Answers i s { succeeded s with olen := BitVec.ofNat 13 n } (overlay s 0x2000 n out)

/-- `exec i s` completes with success, writes exactly STATE[0..15] = `out`, and changes nothing else. -/
def AnswersState (i : Instr) (s : State) (out : Nat → Byte) : Prop :=
  Answers i s (succeeded s) (overlay s 0x0090 16 out)

/-- `exec i s` completes with error `e` and commits nothing (R153, R352). -/
def AnswersErr (i : Instr) (s : State) (e : ErrCode) : Prop :=
  exec i s = .next { s with pending := none, done := true, errcode := some e }

/-- Byte `k` of a sequence; 0 past its end. -/
def nth (b : Bytes) (k : Nat) : Byte := b.getD k 0

/-- Byte `k` of word `i` of expand(K) (R202). -/
def scheduleByte (key : Bytes) (i k : Nat) : Byte := nth ((expand key).getD i []) k

/-! ### The checks of each rule, in its order (R300, R350, R353) -/

/-- The first failing check. -/
def firstError : List (Bool × ErrCode) → Option ErrCode
  | [] => none
  | (failing, e) :: rest => if failing then some e else firstError rest

/-- KEYLEN ∉ {16, 24, 32}. -/
def badKey (s : State) : Bool := !(s.keylen == 16 || s.keylen == 24 || s.keylen == 32)

/-- KEYLEN ∉ {32, 48, 64}. -/
def badXtsKey (s : State) : Bool := !(s.keylen == 32 || s.keylen == 48 || s.keylen == 64)

/-- DLEN > 4096. -/
def longData (s : State) : Bool := decide (4096 < s.dlen.toNat)

/-- AADLEN > 256. -/
def longAad (s : State) : Bool := decide (256 < s.aadlen.toNat)

/-- DLEN mod 16 ≠ 0. -/
def raggedData (s : State) : Bool := decide (s.dlen.toNat % 16 ≠ 0)

/-- KEY_LENGTH, RANGE, BLOCK_LENGTH of the block commands (R254). -/
def blockChecks (s : State) : Option ErrCode :=
  firstError [(badKey s, .keyLength), (longData s, .range), (s.dlen != 16, .blockLength)]

/-- KEY_LENGTH, RANGE (R301). -/
def ecbEncChecks (s : State) : Option ErrCode :=
  firstError [(badKey s, .keyLength), (longData s, .range)]

/-- KEY_LENGTH, RANGE, BLOCK_LENGTH (R302). -/
def ecbDecChecks (s : State) : Option ErrCode :=
  firstError [(badKey s, .keyLength), (longData s, .range), (raggedData s, .blockLength)]

/-- KEY_LENGTH, RANGE, IV_LENGTH (R303, R308, R310). -/
def ivChecks (s : State) : Option ErrCode :=
  firstError [(badKey s, .keyLength), (longData s, .range), (s.ivlen != 16, .ivLength)]

/-- KEY_LENGTH, RANGE, IV_LENGTH, BLOCK_LENGTH (R304). -/
def cbcDecChecks (s : State) : Option ErrCode :=
  firstError [(badKey s, .keyLength), (longData s, .range), (s.ivlen != 16, .ivLength),
    (raggedData s, .blockLength)]

/-- KEY_LENGTH, RANGE, NONCE_LENGTH (R306). -/
def nonceChecks (s : State) : Option ErrCode :=
  firstError [(badKey s, .keyLength), (longData s, .range), (s.ivlen != 12, .nonceLength)]

/-- KEY_LENGTH, RANGE, NONCE_LENGTH, RANGE covering AADLEN too (R317). -/
def gcmChecks (s : State) : Option ErrCode :=
  firstError [(badKey s, .keyLength), (longData s || longAad s, .range), (s.ivlen != 12, .nonceLength)]

/-- KEY_LENGTH, RANGE (R314). -/
def xtsEncChecks (s : State) : Option ErrCode :=
  firstError [(badXtsKey s, .keyLength), (longData s, .range)]

/-- KEY_LENGTH, RANGE, BLOCK_LENGTH (R315). -/
def xtsDecChecks (s : State) : Option ErrCode :=
  firstError [(badXtsKey s, .keyLength), (longData s, .range), (raggedData s, .blockLength)]

/-- The errors each command can end with (R353). -/
def errorSet : Instr → List ErrCode
  | .keyExpand => [.keyLength]
  | .blockEnc | .blockDec | .blockEncT | .blockDecT => [.keyLength, .range, .blockLength]
  | .ecbEnc => [.keyLength, .range]
  | .ecbDec => [.keyLength, .range, .blockLength, .invalidPadding]
  | .cbcEnc => [.keyLength, .range, .ivLength]
  | .cbcDec => [.keyLength, .range, .ivLength, .blockLength, .invalidPadding]
  | .ctrEnc | .ctrDec => [.keyLength, .range, .nonceLength]
  | .cfbEnc | .cfbDec | .ofbEnc | .ofbDec => [.keyLength, .range, .ivLength]
  | .xtsEnc => [.keyLength, .range]
  | .xtsDec => [.keyLength, .range, .blockLength, .invalidPadding]
  | .gcmEnc | .gcmDecNv => [.keyLength, .range, .nonceLength]
  | .gcmDec => [.keyLength, .range, .nonceLength, .authentication]
  | .pad => [.range]
  | .unpad => [.range, .invalidPadding]
  | .gfMul | .clear => []
  | .subBytes | .invSubBytes | .shiftRows | .invShiftRows | .mixColumns | .invMixColumns => []
  | .addRoundKey _ => [.keyLength, .range]
  | .modeEncUnsupported7 | .modeEncUnsupported8to15 _ | .modeDecUnsupported7 _
  | .modeDecUnsupported8to15 _ _ => [.unsupportedMode]

/-! ### Data of the mode statements, read byte by byte -/

/-- DIN[i]. -/
def dinByte (s : State) (i : Nat) : Byte := s.byteAt (0x1000 + i)

/-- The 16 bytes f(16j) … f(16j + 15). -/
def blockOf (f : Nat → Byte) (j : Nat) : Bytes := (List.range 16).map fun k => f (16 * j + k)

/-- Byte i of pad(DIN[0..DLEN−1]) (R280). -/
def paddedByte (s : State) (i : Nat) : Byte :=
  if i < s.dlen.toNat then dinByte s i else BitVec.ofNat 8 (16 - s.dlen.toNat % 16)

/-- len(pad(DIN[0..DLEN−1])) (R280). -/
def paddedLen (s : State) : Nat := s.dlen.toNat + (16 - s.dlen.toNat % 16)

/-- Byte i of ⧺_j B_j for 16-byte blocks B_j. -/
def byteOfBlocks (b : Nat → Bytes) (i : Nat) : Byte := nth (b (i / 16)) (i % 16)

/-- y(0) … y(len−1) ends in valid padding (R281): its last byte n is 1 to 16 and at most len, and the last n bytes are n. -/
def paddingValid (y : Nat → Byte) (len : Nat) : Prop :=
  1 ≤ (y (len - 1)).toNat ∧ (y (len - 1)).toNat ≤ 16 ∧ (y (len - 1)).toNat ≤ len ∧
    ∀ i, len - (y (len - 1)).toNat ≤ i → i < len → y i = y (len - 1)

/-- Command `i` answers unpad(y(0) … y(len−1)): the bytes before the padding, or INVALID_PADDING (R281). -/
def AnswersUnpadded (i : Instr) (s : State) (y : Nat → Byte) (len : Nat) : Prop :=
  (paddingValid y len → AnswersOut i s (len - (y (len - 1)).toNat) y) ∧
    (¬ paddingValid y len → AnswersErr i s .invalidPadding)

/-- E(K, ·) and D(K, ·) for K = KEY[0..KEYLEN−1]. -/
def E (s : State) (b : Bytes) : Bytes := encryptBlock s.keyBytes b
def D (s : State) (b : Bytes) : Bytes := decryptBlock s.keyBytes b

/-- IV[0..15]. -/
def ivBlock (s : State) : Bytes := (List.range 16).map fun k => s.byteAt (0x0080 + k)

/-- c[j] of R303: c[0] = E(p[0] ⊕ IV), c[j] = E(p[j] ⊕ c[j−1]). -/
def cbcCipher (s : State) : Nat → Bytes
  | 0 => E s (xorBytes (blockOf (paddedByte s) 0) (ivBlock s))
  | j + 1 => E s (xorBytes (blockOf (paddedByte s) (j + 1)) (cbcCipher s j))

/-- p[j] of R304: D(c[j]) ⊕ c[j−1], c[−1] = IV. -/
def cbcPlain (s : State) : Nat → Bytes
  | 0 => xorBytes (D s (blockOf (dinByte s) 0)) (ivBlock s)
  | j + 1 => xorBytes (D s (blockOf (dinByte s) (j + 1))) (blockOf (dinByte s) j)

/-- Keystream block j of R305: E(nonce ‖ counter), the counter 4 bytes big-endian, the nonce IV[0..11]. -/
def ctrKey (s : State) (j : Nat) : Bytes :=
  E s ((List.range 12).map (fun k => s.byteAt (0x0080 + k)) ++ [0, 0, BitVec.ofNat 8 (j / 256), BitVec.ofNat 8 j])

/-- Keystream block j of R308: E(feedback), the feedback the ciphertext block before. -/
def cfbEncKey (s : State) : Nat → Bytes
  | 0 => E s (ivBlock s)
  | j + 1 => E s (xorBytes (blockOf (dinByte s) j) (cfbEncKey s j))

/-- Keystream block j of R309: the feedback is the given ciphertext. -/
def cfbDecKey (s : State) : Nat → Bytes
  | 0 => E s (ivBlock s)
  | j + 1 => E s (blockOf (dinByte s) j)

/-- Feedback block j of R310: it is encrypted again at each step. -/
def ofbKey (s : State) : Nat → Bytes
  | 0 => E s (ivBlock s)
  | j + 1 => E s (ofbKey s j)

/-- DIN[i] ⊕ keystream, byte i. -/
def streamByte (s : State) (key : Nat → Bytes) (i : Nat) : Byte := dinByte s i ^^^ byteOfBlocks key i

/-- K1 and K2 of R312, the halves of KEY[0..KEYLEN−1]. -/
def xtsKey (s : State) (half : Nat) : Bytes :=
  (List.range (s.keylen.toNat / 2)).map fun k => s.byteAt (0x0040 + half * (s.keylen.toNat / 2) + k)

/-- E(K2, fill(12, 0) ‖ BE32(n)) (R313). -/
def tweakOf (s : State) (n : Word) : Bytes :=
  encryptBlock (xtsKey s 1) (List.replicate 12 0 ++
    [n.extractLsb' 24 8, n.extractLsb' 16 8, n.extractLsb' 8 8, n.extractLsb' 0 8])

/-- T_j of R313. -/
def tweak (s : State) : Nat → Bytes
  | 0 => tweakOf s s.sector
  | j + 1 =>
    match s.params.xtsTweakSchedule with
    | .alpha => mulAlpha (tweak s j)
    | .sectorIncrement => tweakOf s (s.sector + BitVec.ofNat 32 (j + 1))
    | .constant => tweakOf s s.sector

/-- Block j of R314 for input bytes q: E(K1, Q_j ⊕ T_j) ⊕ T_j. -/
def xtsCipher (s : State) (q : Nat → Byte) (j : Nat) : Bytes :=
  xorBytes (encryptBlock (xtsKey s 0) (xorBytes (blockOf q j) (tweak s j))) (tweak s j)

/-- Block j of R315: D(K1, X_j ⊕ T_j) ⊕ T_j. -/
def xtsPlain (s : State) (j : Nat) : Bytes :=
  xorBytes (decryptBlock (xtsKey s 0) (xorBytes (blockOf (dinByte s) j) (tweak s j))) (tweak s j)

/-- The number whose bytes are `t`, t[0] the least significant (R313). -/
def leNat : Bytes → Nat
  | [] => 0
  | b :: bs => b.toNat + 256 * leNat bs

/-! ### Where each command writes (R156) -/

/-- The commands that write DOUT and OLEN. -/
def writesOut : Instr → Bool
  | .blockEnc | .blockDec | .blockEncT | .blockDecT
  | .ecbEnc | .cbcEnc | .ctrEnc | .cfbEnc | .ofbEnc | .xtsEnc | .gcmEnc
  | .ecbDec | .cbcDec | .ctrDec | .cfbDec | .ofbDec | .xtsDec | .gcmDec | .gcmDecNv
  | .pad | .unpad => true
  | _ => false

/-- The commands that write STATE (R48). -/
def writesState : Instr → Bool
  | .subBytes | .invSubBytes | .shiftRows | .invShiftRows | .mixColumns | .invMixColumns | .addRoundKey _ => true
  | _ => false

/-- The commands that write TRACE and TRACE_COUNT (R256). -/
def writesTrace : Instr → Bool
  | .blockEncT | .blockDecT => true
  | _ => false

/-- The three commands that write ROUNDKEY and set KS_VALID and KS_NR (R50). -/
def writesSchedule (i : Instr) : Bool := writesTrace i || i == .keyExpand

/-- The buffer offsets that command `i`, having left OLEN = olen, may have written (R156, R160). -/
abbrev mayWrite (i : Instr) (olen a : Nat) : Prop :=
  (writesOut i = true ∧ 0x2000 ≤ a ∧ a < 0x2000 + olen) ∨
    (writesState i = true ∧ 0x0090 ≤ a ∧ a < 0x00A0) ∨
    (writesTrace i = true ∧ 0x4000 ≤ a ∧ a < 0x4800) ∨
    (writesSchedule i = true ∧ 0x0100 ≤ a ∧ a < 0x01F0) ∨
    (i = .gcmEnc ∧ 0x00A0 ≤ a ∧ a < 0x00B0) ∨
    i = .clear

/-- The offsets of the nine buffers (10_state.md section 3). -/
abbrev inBuffer (a : Nat) : Prop :=
  (0x0040 ≤ a ∧ a < 0x00B0) ∨ (0x0100 ≤ a ∧ a < 0x01F0) ∨ (0x0200 ≤ a ∧ a < 0x0300) ∨
    (0x1000 ≤ a ∧ a < 0x2000) ∨ (0x2000 ≤ a ∧ a < 0x3010) ∨ (0x4000 ≤ a ∧ a < 0x4800)

/-- The offsets of the buffers a command may read: KEY, IV, STATE, TAG, AAD, DIN. -/
abbrev operandOffset (a : Nat) : Prop :=
  (0x0040 ≤ a ∧ a < 0x00B0) ∨ (0x0200 ≤ a ∧ a < 0x0300) ∨ (0x1000 ≤ a ∧ a < 0x2000)

/-- Two states with the same operands: the length registers, SECTOR, GFOP, the parameters and the operand buffers. -/
def SameOperands (s u : State) : Prop :=
  s.keylen = u.keylen ∧ s.ivlen = u.ivlen ∧ s.dlen = u.dlen ∧ s.aadlen = u.aadlen ∧ s.sector = u.sector ∧
    s.gfop = u.gfop ∧ s.params = u.params ∧ ∀ a, operandOffset a → s.byteAt a = u.byteAt a

/-! ### Words of the statements about the bus -/

/-- The next step of `s` is event `e`, and `rest` comes after it. -/
abbrev nextIs (s : State) (e : Event) (rest : List Event) : Prop := s.schedule = e :: rest

/-- The Engine has the next turn. -/
abbrev enginesTurn (s : State) : Prop := s.schedule = [] ∨ ∃ rest, s.schedule = .engine :: rest

/-- Σ byte_k · 2^(8k) for k = 0..n−1 (R82). -/
def leSum (byte : Nat → Byte) : Nat → Nat
  | 0 => 0
  | n + 1 => leSum byte n + (byte n).toNat * 2 ^ (8 * n)

/-- The offsets of the outputs (R89): OLEN; GFRES and TRACE_COUNT; STATE and TAG; ROUNDKEY; DOUT; TRACE. -/
abbrev outputOffset (o : Nat) : Prop :=
  (0x0024 ≤ o ∧ o < 0x0028) ∨ (0x0030 ≤ o ∧ o < 0x0038) ∨ (0x0090 ≤ o ∧ o < 0x00B0) ∨
    (0x0100 ≤ o ∧ o < 0x01F0) ∨ (0x2000 ≤ o ∧ o < 0x3010) ∨ (0x4000 ≤ o ∧ o < 0x4800)

/-- Bit `j` of a register at offset `base`, `old` before, after the low bytes of `v` are written to offset `o`, `z` wide: bits
in a written byte take the written bits, the others stay (R82, R84). -/
def writtenBit (o : Nat) (z : AccessSize) (v : Word) (base : Nat) (old : Bool) (j : Nat) : Bool :=
  if o ≤ base + j / 8 ∧ base + j / 8 < o + z.bytes then v.getLsbD (j - 8 * (o - base)) else old

/-- The offsets outside the buffers that ignore a write while idle: ID and CAP; OLEN; GFRES, TRACE_COUNT and the reserved
words after them; the other reserved ranges (R55, R84, R85). -/
abbrev ignoresWrites (o : Nat) : Prop :=
  o < 0x0008 ∨ (0x0024 ≤ o ∧ o < 0x0028) ∨ (0x0030 ≤ o ∧ o < 0x0040) ∨ (0x00B0 ≤ o ∧ o < 0x0100) ∨
    (0x01F0 ≤ o ∧ o < 0x0200) ∨ (0x0300 ≤ o ∧ o < 0x1000) ∨ (0x3010 ≤ o ∧ o < 0x4000) ∨ (0x4800 ≤ o ∧ o < 0x8000)

/-- The round and the operation of record k of an encryption trace with Nr = nr (R250, R252). -/
def encLabel (nr k : Nat) : Nat × TraceOp :=
  if k = 0 then (0, .addRoundKey)
  else if k ≤ 4 * (nr - 1) then
    ((k - 1) / 4 + 1, [.subBytes, .shiftRows, .mixColumns, .addRoundKey].getD ((k - 1) % 4) .addRoundKey)
  else (nr, [.subBytes, .shiftRows, .addRoundKey].getD (k - 1 - 4 * (nr - 1)) .addRoundKey)

/-- The round and the operation of record k of a decryption trace with Nr = nr (R251, R253). -/
def decLabel (nr k : Nat) : Nat × TraceOp :=
  if k = 0 then (nr, .addRoundKey)
  else if k ≤ 4 * (nr - 1) then
    (nr - 1 - (k - 1) / 4, [.invShiftRows, .invSubBytes, .addRoundKey, .invMixColumns].getD ((k - 1) % 4) .addRoundKey)
  else (0, [.invShiftRows, .invSubBytes, .addRoundKey].getD (k - 1 - 4 * (nr - 1)) .addRoundKey)

/-- `tr` is the trace of the labelled steps from block b to `last`: 4·Nr records, each with its label and with the
state that its operation makes of the state before it. -/
def IsTrace (key b last : Bytes) (tr : List TraceRecord) (label : Nat → Nat → Nat × TraceOp) : Prop :=
  tr.length = 4 * (key.length / 4 + 6) ∧
    (tr.map TraceRecord.state).getLast? = some last ∧
    ∀ k r, tr[k]? = some r →
      (r.round, r.op) = label (key.length / 4 + 6) k ∧
      r.state = CipherStep.apply (expand key) ⟨r.round, r.op⟩
        (if k = 0 then b else ((tr[k - 1]?).map TraceRecord.state).getD [])

/-- Byte m of the 32-byte record of `r` (R54, R256). -/
def recordByte (r : TraceRecord) (m : Nat) : Byte :=
  if m = 0 then BitVec.ofNat 8 r.round
  else if m = 1 then r.op.code
  else if 4 ≤ m ∧ m < 20 then nth r.state (m - 4)
  else 0

/-- Byte j of TRACE after a traced command (R256). -/
def traceByte (tr : List TraceRecord) (j : Nat) : Byte :=
  match tr[j / 32]? with
  | some r => recordByte r (j % 32)
  | none => 0

/-- Byte j of ROUNDKEY after a schedule commit (R205, R256). -/
def roundKeyByte (key : Bytes) (j : Nat) : Byte :=
  if j < 16 * (key.length / 4 + 7) then scheduleByte key (j / 4) (j % 4) else 0

/-- A traced block command on operands that pass the checks (R256 to R258): DOUT and OLEN, TRACE and TRACE_COUNT, ROUNDKEY,
KS_VALID and KS_NR, and nothing else. -/
def AnswersTraced (i : Instr) (s : State) (out : Bytes) (tr : List TraceRecord) : Prop :=
  Answers i s
    { succeeded s with
      olen := 16, ksValid := true, ksNr := BitVec.ofNat 4 (s.keylen.toNat / 4 + 6),
      traceCount := BitVec.ofNat 7 (4 * (s.keylen.toNat / 4 + 6)) }
    fun a =>
      if 0x0100 ≤ a ∧ a < 0x01F0 then roundKeyByte s.keyBytes (a - 0x0100)
      else if 0x2000 ≤ a ∧ a < 0x2010 then nth out (a - 0x2000)
      else if 0x4000 ≤ a ∧ a < 0x4800 then traceByte tr (a - 0x4000)
      else s.byteAt a

/-- Runs commands one after another, each by its meaning. -/
def runCommands : List Instr → State → Host.Outcome State Fault Refusal
  | [], s => .next s
  | i :: is, s =>
    match exec i s with
    | .next t => runCommands is t
    | .fault f => .fault f
    | .refused r => .refused r

/-- The sequence of R237 for Nr = nr. -/
def singleSteps (nr : Nat) : List Instr :=
  [.addRoundKey 0] ++
    (List.range (nr - 1)).flatMap (fun r => [.subBytes, .shiftRows, .mixColumns, .addRoundKey (r + 1)]) ++
    [.subBytes, .shiftRows, .addRoundKey nr]

/-- K128, K192 and K256 of 95_test_vectors.md: the first n bytes of 00 01 02 … 1f. -/
def testKey (n : Nat) : Bytes := (List.range n).map (BitVec.ofNat 8)

/-- P16 of 95_test_vectors.md: 00 11 22 … ff. -/
def testBlock : Bytes := (List.range 16).map fun i => BitVec.ofNat 8 (17 * i)

end Sys2Proof.Claims

open Sys2Proof Sys2Proof.Machine Sys2Proof.Claims

/-! ### Encoding -/

/-- Every well-formed instruction is read back from its word, with every operand value (R118, R119). -/
def Obligations.DecodeOfEncode : Prop :=
  ∀ i : Instr, i.wellFormed = true → decode (encode i) = .ok i

/-- A word that decodes stands for exactly that instruction: no second word does (R118, R119). -/
def Obligations.EncodeOfDecode : Prop :=
  ∀ (w : Word) (i : Instr), decode w = .ok i → i.wellFormed = true ∧ encode i = w

/-- Words written out from R118 and R119 decode to their commands. -/
def Obligations.SampleWordsDecode : Prop :=
  decode 0x00000001 = .ok .keyExpand ∧ decode 0x00001003 = .ok .blockDecT ∧ decode 0x00000304 = .ok .cfbEnc ∧
    decode 0x00002605 = .ok .gcmDecNv ∧ decode 0x00000007 = .ok .unpad ∧ decode 0x00000008 = .ok .gfMul ∧
    decode 0x00000009 = .ok .clear ∧ decode 0x00000015 = .ok .invMixColumns ∧
    decode 0x000F0016 = .ok (.addRoundKey 15) ∧ decode 0x00002705 = .ok (.modeDecUnsupported7 true) ∧
    decode 0x00000F04 = .ok (.modeEncUnsupported8to15 15)

/-- R119: a word of each row of its table, pending at the Engine's turn, scheduled or not, executes nothing else: it completes with the code of
that row and commits nothing. -/
def Obligations.UndefinedWordsReportTheirCode : Prop :=
  ∀ (s : State) (w : Word) (op mode : Nat), s.pending = some w → enginesTurn s →
    op = w.toNat % 256 → mode = w.toNat / 256 % 16 →
    let past : State := { s with schedule := s.schedule.tail }
    let opLegal := (0x01 ≤ op ∧ op ≤ 0x09) ∨ (0x10 ≤ op ∧ op ≤ 0x16)
    let fieldsLegal := w.extractLsb' 14 2 = 0 ∧ w.extractLsb' 20 12 = 0 ∧
      (mode ≠ 0 → op = 4 ∨ op = 5) ∧ (w.getLsbD 12 = true → op = 2 ∨ op = 3) ∧
      (w.getLsbD 13 = true → op = 5) ∧ (w.extractLsb' 16 4 ≠ 0 → op = 0x16)
    (¬ opLegal ∨ ¬ fieldsLegal →
      step s = .next { past with pending := none, done := true, errcode := some .illegalCmd }) ∧
    (opLegal ∧ fieldsLegal ∧ (op = 4 ∨ op = 5) ∧ 7 ≤ mode →
      step s = .next { past with pending := none, done := true, errcode := some .unsupportedMode }) ∧
    (opLegal ∧ fieldsLegal ∧ op = 5 ∧ w.getLsbD 13 = true ∧ mode ≤ 5 →
      step s = .next { past with pending := none, done := true, errcode := some .illegalCmd })

/-! ### Steps and the protocol -/

/-- At the Engine's turn, a pending word that decodes to i runs i: the step is exec of i, on the state past the turn.
`withFetchWord`, the model's own (log 6), makes a word pending with the Engine's turn next, in any state. -/
def Obligations.StepRunsPendingCommand : Prop :=
  ∀ (s : State) (w : Word) (i : Instr), decode w = .ok i →
    (s.pending = some w → s.schedule = [] → step s = exec i s) ∧
      (∀ rest, s.pending = some w → nextIs s .engine rest → step s = exec i { s with schedule := rest }) ∧
      ∀ nbits v : Nat, BitVec.ofNat 32 (v % 2 ^ nbits) = w →
        step (s.withFetchWord nbits v) = exec i (s.accept w)

/-- R354: no error, no host access and no reset leaves the engine stuck: every step of every state goes on. -/
def Obligations.EveryStepGoesOn : Prop :=
  ∀ s : State, ∃ t, step s = .next t

/-- R154: an accepted command completes, whatever the host does meanwhile, unless reset: within as many steps as are
scheduled, a state comes whose next step completes it, with the operands it was accepted with (R88). That the schedule is finite and an
empty one gives the Engine the turn is the model's choice (log 6). -/
def Obligations.AcceptedCommandCompletes : Prop :=
  ∀ (s : State) (w : Word), s.pending = some w → (∀ e ∈ s.schedule, e ≠ .reset) →
    ∃ k u t, k ≤ s.schedule.length ∧ Sys2Proof.core.run k s = Host.Outcome.next u ∧ u.pending = some w ∧ SameOperands s u ∧
      (∀ a, u.byteAt a = s.byteAt a) ∧ enginesTurn u ∧ step u = .next t ∧ t.pending = none ∧ t.done = true

/-- R151: a 32-bit write to CMD accepts the word when idle and is not accepted when busy (R88). -/
def Obligations.AcceptanceOfACommand : Prop :=
  ∀ (s : State) (w : Word) (rest : List Event), nextIs s (.hostWrite 0x000C .word w) rest →
    (s.pending = none →
      ∃ r, step s = .next { s with
        schedule := rest, response := some r, pending := some w, done := false, errcode := none }) ∧
    (s.pending ≠ none →
      ∃ r, step s = .next { s with schedule := rest, response := some r, wdrop := true })

/-- R150: the engine is idle or busy, as BUSY says; it leaves idle only by accepting a command, and busy only by completing
it or by reset. -/
def Obligations.BusyFollowsTheLifeCycle : Prop :=
  (∀ s : State, (s.pending = none ∧ s.statusWord.getLsbD 0 = false) ∨
    (∃ w, s.pending = some w ∧ s.statusWord.getLsbD 0 = true)) ∧
  ∀ s t : State, step s = .next t →
    (s.pending = none → t.pending = none ∨
      ∃ w rest, nextIs s (.hostWrite 0x000C .word w) rest ∧ t.pending = some w) ∧
    (∀ w, s.pending = some w → t.pending = some w ∨
      (t.pending = none ∧ (enginesTurn s ∨ ∃ rest, nextIs s .reset rest)))

/-- R57, R360, R361: DONE is set by a completion alone; after any completion IRQ is IRQ_EN; IRQ is always their conjunction. -/
def Obligations.DoneAndIrqComeFromCompletion : Prop :=
  (∀ s t : State, step s = .next t → s.done = false → t.done = true → s.pending ≠ none ∧ enginesTurn s) ∧
    (∀ (i : Instr) (s t : State), exec i s = .next t → t.done = true ∧ t.irq = s.irqEn) ∧
    ∀ s : State, s.irq = true ↔ s.irqEn = true ∧ s.done = true

/-! ### Host accesses -/

/-- R83: a misaligned access answers a bus error and changes no state; a legal one stays within one register. -/
def Obligations.MisalignedAccessChangesNothing : Prop :=
  ∀ (s : State) (o : BitVec 15) (z : AccessSize) (v : Word) (rest : List Event),
    (o.toNat % z.bytes ≠ 0 →
      (nextIs s (.hostRead o z) rest → step s = .next { s with schedule := rest, response := some .busError }) ∧
      (nextIs s (.hostWrite o z v) rest → step s = .next { s with schedule := rest, response := some .busError })) ∧
    (o.toNat % z.bytes = 0 → o.toNat / 4 = (o.toNat + z.bytes - 1) / 4)

/-- R82, R86: an aligned read while idle answers Σ byte(a+k)·2^(8k) and changes nothing else. -/
def Obligations.IdleReadAnswersTheStoredBytes : Prop :=
  ∀ (s : State) (o : BitVec 15) (z : AccessSize) (rest : List Event),
    nextIs s (.hostRead o z) rest → s.pending = none → o.toNat % z.bytes = 0 →
      ∃ v : Word, step s = .next { s with schedule := rest, response := some (.data v) } ∧
        v.toNat = leSum (fun k => s.placeByte (locate (o.toNat + k))) z.bytes

/-- R89: while busy an input reads its stored value, and each byte of an output is a fresh draw (the free value
`Config.busyByte`, log 3; the draws cover the reserved bits of an output register, log 10). -/
def Obligations.BusyReadAnswersInputsAndDraws : Prop :=
  ∀ (s : State) (o : BitVec 15) (z : AccessSize) (rest : List Event),
    nextIs s (.hostRead o z) rest → s.pending ≠ none → o.toNat % z.bytes = 0 →
      (¬ outputOffset o.toNat →
        ∃ v : Word, step s = .next { s with schedule := rest, response := some (.data v) } ∧
          v.toNat = leSum (fun k => s.placeByte (locate (o.toNat + k))) z.bytes) ∧
      (outputOffset o.toNat →
        ∃ v : Word, step s = .next { s with
            schedule := rest, response := some (.data v), draws := s.draws + z.bytes } ∧
          v.toNat = leSum (fun k => Config.busyByte (s.draws + k)) z.bytes)

/-- R55, R81: what each offset of the window names, and the byte it holds; with R32 to R45 the value of every register, its
field zero-extended, so that its reserved bits are 0 (the fields of STATUS: `Obligations.StatusRegister`). -/
def Obligations.WindowMap : Prop :=
  (∀ k, k < 4 →
    locate (0x0000 + k) = .reg .id k ∧ locate (0x0004 + k) = .reg .cap k ∧ locate (0x0008 + k) = .reg .ctrl k ∧
    locate (0x000C + k) = .reg .cmd k ∧ locate (0x0010 + k) = .reg .status k ∧
    locate (0x0014 + k) = .reg .keylen k ∧ locate (0x0018 + k) = .reg .ivlen k ∧
    locate (0x001C + k) = .reg .dlen k ∧ locate (0x0020 + k) = .reg .aadlen k ∧
    locate (0x0024 + k) = .reg .olen k ∧ locate (0x0028 + k) = .reg .sector k ∧
    locate (0x002C + k) = .reg .gfop k ∧ locate (0x0030 + k) = .reg .gfres k ∧
    locate (0x0034 + k) = .reg .traceCount k) ∧
  (∀ i, (i < 64 → locate (0x0040 + i) = .buf .key i) ∧ (i < 16 → locate (0x0080 + i) = .buf .iv i) ∧
    (i < 16 → locate (0x0090 + i) = .buf .state i) ∧ (i < 16 → locate (0x00A0 + i) = .buf .tag i) ∧
    (i < 240 → locate (0x0100 + i) = .buf .roundKey i) ∧ (i < 256 → locate (0x0200 + i) = .buf .aad i) ∧
    (i < 4096 → locate (0x1000 + i) = .buf .din i) ∧ (i < 4112 → locate (0x2000 + i) = .buf .dout i) ∧
    (i < 2048 → locate (0x4000 + i) = .buf .trace i)) ∧
  (∀ o, (0x0038 ≤ o ∧ o < 0x0040) ∨ (0x00B0 ≤ o ∧ o < 0x0100) ∨ (0x01F0 ≤ o ∧ o < 0x0200) ∨
    (0x0300 ≤ o ∧ o < 0x1000) ∨ (0x3010 ≤ o ∧ o < 0x4000) ∨ (0x4800 ≤ o ∧ o < 0x8000) → locate o = .reserved) ∧
  (∀ (s : State) (r : Reg) (k : Nat), s.placeByte (.reg r k) = (regWord s r).extractLsb' (8 * k) 8) ∧
  (∀ s : State, s.placeByte .reserved = 0) ∧
  (∀ (s : State) (i : Nat),
    s.placeByte (.buf .key i) = s.byteAt (0x0040 + i) ∧ s.placeByte (.buf .iv i) = s.byteAt (0x0080 + i) ∧
    s.placeByte (.buf .state i) = s.byteAt (0x0090 + i) ∧ s.placeByte (.buf .tag i) = s.byteAt (0x00A0 + i) ∧
    s.placeByte (.buf .roundKey i) = s.byteAt (0x0100 + i) ∧ s.placeByte (.buf .aad i) = s.byteAt (0x0200 + i) ∧
    s.placeByte (.buf .din i) = s.byteAt (0x1000 + i) ∧ s.placeByte (.buf .dout i) = s.byteAt (0x2000 + i) ∧
    s.placeByte (.buf .trace i) = s.byteAt (0x4000 + i)) ∧
  ∀ s : State,
    regWord s .id = 0x41455301 ∧ regWord s .cap = 0x01001000 ∧
    (regWord s .ctrl).toNat = s.irqEn.toNat ∧ regWord s .cmd = 0 ∧ regWord s .status = s.statusWord ∧
    (regWord s .keylen).toNat = s.keylen.toNat ∧ (regWord s .ivlen).toNat = s.ivlen.toNat ∧
    (regWord s .dlen).toNat = s.dlen.toNat ∧ (regWord s .aadlen).toNat = s.aadlen.toNat ∧
    (regWord s .olen).toNat = s.olen.toNat ∧ regWord s .sector = s.sector ∧
    (regWord s .gfop).toNat = s.gfop.toNat ∧ (regWord s .gfres).toNat = s.gfres.toNat ∧
    (regWord s .traceCount).toNat = s.traceCount.toNat

/-- R35, R84: the fields of STATUS at their bits, in every state, and what a write to STATUS clears, busy or not
(the answer `ack` is the model's: log 8). -/
def Obligations.StatusRegister : Prop :=
  (∀ s : State,
    (s.statusWord.getLsbD 0 = true ↔ s.pending ≠ none) ∧ s.statusWord.getLsbD 1 = s.done ∧
    (s.statusWord.getLsbD 2 = true ↔ s.errcode ≠ none) ∧ s.statusWord.getLsbD 3 = s.ksValid ∧
    s.statusWord.getLsbD 4 = s.wdrop ∧ s.statusWord.extractLsb' 5 3 = 0 ∧
    (s.statusWord.extractLsb' 8 4).toNat = s.errcodeValue ∧ s.statusWord.extractLsb' 12 4 = 0 ∧
    s.statusWord.extractLsb' 16 4 = s.ksNr ∧ s.statusWord.extractLsb' 20 12 = 0) ∧
  ∀ (s : State) (o : BitVec 15) (z : AccessSize) (v : Word) (rest : List Event),
    nextIs s (.hostWrite o z v) rest → o.toNat % z.bytes = 0 → 0x0010 ≤ o.toNat → o.toNat < 0x0014 →
      step s = .next { s with
        schedule := rest, response := some .ack,
        done := s.done && !(o == 0x0010 && v.getLsbD 1),
        wdrop := s.wdrop && !(o == 0x0010 && v.getLsbD 4) }

/-- R88: while busy, an aligned write outside CTRL and STATUS is dropped and sets WDROP, so that no operand changes; writes to
CTRL and STATUS apply. -/
def Obligations.WritesWhileBusyAreDropped : Prop :=
  ∀ (s : State) (o : BitVec 15) (z : AccessSize) (v : Word) (rest : List Event),
    nextIs s (.hostWrite o z v) rest → s.pending ≠ none → o.toNat % z.bytes = 0 →
      (o.toNat < 0x0008 ∨ (0x000C ≤ o.toNat ∧ o.toNat < 0x0010) ∨ 0x0014 ≤ o.toNat →
        ∃ r, step s = .next { s with schedule := rest, response := some r, wdrop := true }) ∧
      (0x0008 ≤ o.toNat ∧ o.toNat < 0x000C →
        ∃ r, step s = .next { s with
          schedule := rest, response := some r,
          irqEn := if o = 0x0008 then v.getLsbD 0 else s.irqEn }) ∧
      (0x0010 ≤ o.toNat ∧ o.toNat < 0x0014 →
        ∃ r, step s = .next { s with
          schedule := rest, response := some r,
          done := s.done && !(o == 0x0010 && v.getLsbD 1),
          wdrop := s.wdrop && !(o == 0x0010 && v.getLsbD 4) }) ∧
      ∀ t, step s = .next t → SameOperands s t

/-- R87: only a 32-bit write to CMD submits a command, the word written; an 8-bit or 16-bit write to it has no effect while
idle, aligned or not, and while busy an aligned one sets WDROP alone. -/
def Obligations.OnlyWordWritesToCmdSubmit : Prop :=
  (∀ s t : State, s.pending = none → step s = .next t → ∀ w, t.pending = some w →
    ∃ rest, nextIs s (.hostWrite 0x000C .word w) rest) ∧
  (∀ (s : State) (w : Word) (rest : List Event), nextIs s (.hostWrite 0x000C .word w) rest → s.pending = none →
    ∃ t, step s = .next t ∧ t.pending = some w) ∧
  ∀ (s : State) (o : BitVec 15) (z : AccessSize) (v : Word) (rest : List Event),
    nextIs s (.hostWrite o z v) rest → z ≠ .word → 0x000C ≤ o.toNat → o.toNat < 0x0010 →
      (s.pending = none → ∃ r, step s = .next { s with schedule := rest, response := some r }) ∧
      (s.pending ≠ none → o.toNat % z.bytes = 0 →
        ∃ r, step s = .next { s with schedule := rest, response := some r, wdrop := true })

/-- R84, R85 with R34 and R37 to R45: an aligned write of any width while idle to each register but CMD and STATUS, and to
every reserved offset; first the 32-bit writes in one piece (the answer `ack` is the model's: log 8). -/
def Obligations.RegisterWritesSetTheirFields : Prop :=
  (∀ (s : State) (o : BitVec 15) (v : Word) (rest : List Event),
    nextIs s (.hostWrite o .word v) rest → s.pending = none →
      let t : State := { s with schedule := rest, response := some .ack }
      (o = 0x0008 → step s = .next { t with irqEn := v.getLsbD 0 }) ∧
      (o = 0x0014 → step s = .next { t with keylen := v.extractLsb' 0 7, ksValid := false, ksNr := 0 }) ∧
      (o = 0x0018 → step s = .next { t with ivlen := v.extractLsb' 0 5 }) ∧
      (o = 0x001C → step s = .next { t with dlen := v.extractLsb' 0 13 }) ∧
      (o = 0x0020 → step s = .next { t with aadlen := v.extractLsb' 0 9 }) ∧
      (o = 0x0028 → step s = .next { t with sector := v }) ∧
      (o = 0x002C → step s = .next { t with gfop := v.extractLsb' 0 16 })) ∧
  ∀ (s : State) (o : BitVec 15) (z : AccessSize) (v : Word) (rest : List Event),
    nextIs s (.hostWrite o z v) rest → s.pending = none → o.toNat % z.bytes = 0 →
      let t : State := { s with schedule := rest, response := some .ack }
      let within (base : Nat) : Prop := base ≤ o.toNat ∧ o.toNat < base + 4
      (within 0x0008 → step s = .next { t with irqEn := writtenBit o.toNat z v 0x0008 s.irqEn 0 }) ∧
      (within 0x0014 → ∃ f, step s = .next { t with keylen := f, ksValid := false, ksNr := 0 } ∧
        ∀ j, j < 7 → f.getLsbD j = writtenBit o.toNat z v 0x0014 (s.keylen.getLsbD j) j) ∧
      (within 0x0018 → ∃ f, step s = .next { t with ivlen := f } ∧
        ∀ j, j < 5 → f.getLsbD j = writtenBit o.toNat z v 0x0018 (s.ivlen.getLsbD j) j) ∧
      (within 0x001C → ∃ f, step s = .next { t with dlen := f } ∧
        ∀ j, j < 13 → f.getLsbD j = writtenBit o.toNat z v 0x001C (s.dlen.getLsbD j) j) ∧
      (within 0x0020 → ∃ f, step s = .next { t with aadlen := f } ∧
        ∀ j, j < 9 → f.getLsbD j = writtenBit o.toNat z v 0x0020 (s.aadlen.getLsbD j) j) ∧
      (within 0x0028 → ∃ f, step s = .next { t with sector := f } ∧
        ∀ j, j < 32 → f.getLsbD j = writtenBit o.toNat z v 0x0028 (s.sector.getLsbD j) j) ∧
      (within 0x002C → ∃ f, step s = .next { t with gfop := f } ∧
        ∀ j, j < 16 → f.getLsbD j = writtenBit o.toNat z v 0x002C (s.gfop.getLsbD j) j) ∧
      (ignoresWrites o.toNat → step s = .next t)

/-- R84: an aligned write while idle to a buffer: a read-write buffer takes the bytes, a read-only one ignores them, and a
write to KEY clears KS_VALID and KS_NR (the answer `ack` is the model's: log 8). -/
def Obligations.BufferWritesStoreTheirBytes : Prop :=
  ∀ (s : State) (o : BitVec 15) (z : AccessSize) (v : Word) (rest : List Event),
    nextIs s (.hostWrite o z v) rest → s.pending = none → o.toNat % z.bytes = 0 → inBuffer o.toNat →
      ∃ t, step s = .next t ∧
        { t with mem := s.mem } = { s with
          schedule := rest, response := some .ack,
          ksValid := if o.toNat < 0x0080 then false else s.ksValid,
          ksNr := if o.toNat < 0x0080 then 0 else s.ksNr } ∧
        ∀ a, t.byteAt a =
          if o.toNat ≤ a ∧ a < o.toNat + z.bytes ∧ operandOffset a then v.extractLsb' (8 * (a - o.toNat)) 8
          else s.byteAt a

/-! ### Reset and the invariant -/

/-- R380: the state after reset. A buffer byte then has a value nothing is known of (the free value `Config.resetByte`,
log 2); the constants read as always. -/
def Obligations.ResetState : Prop :=
  let s := State.reset
  s.pending = none ∧ s.irqEn = false ∧ s.statusWord = 0 ∧ s.keylen = 0 ∧ s.ivlen = 0 ∧ s.dlen = 0 ∧ s.aadlen = 0 ∧
    s.olen = 0 ∧ s.gfres = 0 ∧ s.traceCount = 0 ∧ s.sector = 0 ∧ s.gfop = 0 ∧ s.irq = false ∧
    (∀ a, s.byteAt a = Config.resetByte 0 a) ∧
    ∀ t : State, regWord t .id = 0x41455301 ∧ regWord t .cap = 0x01001000 ∧ regWord t .cmd = 0

/-- R381: a reset, at any point, abandons a pending command: nothing is committed, DONE is not set, IRQ is 0, and every field
of the spec is as after reset (log 2: the buffers then hold a fresh free value). -/
def Obligations.ResetAbandonsThePendingCommand : Prop :=
  ∀ (s : State) (rest : List Event), nextIs s .reset rest →
    ∃ t, step s = .next t ∧ t.pending = none ∧ t.done = false ∧ t.irq = false ∧
      { t with params := State.reset.params, schedule := [], resets := 0, draws := 0 } = State.reset ∧
      t.params = s.params ∧ t.schedule = rest ∧ ∀ a, t.byteAt a = Config.resetByte (s.resets + 1) a

/-- The invariant holds after reset. -/
def Obligations.ResetMeetsTheInvariant : Prop := State.reset.Inv

/-- Every step keeps the invariant: memory canonical and inside the buffers, KS_VALID and KS_NR consistent (R35), ROUNDKEY the
schedule of the current KEY and zeros after it while KS_VALID = 1 (R35, R50), OLEN and TRACE_COUNT in range (R41, R45), DONE
and ERRCODE clear while busy (R151). -/
def Obligations.StepKeepsTheInvariant : Prop :=
  ∀ s t : State, s.Inv → step s = .next t → t.Inv

/-! ### Rules about all commands -/

/-- R352: a command that ends in an error, found by decode or by the command, writes none of its outputs. -/
def Obligations.ErrorsCommitNothing : Prop :=
  (∀ (i : Instr) (s t : State) (e : ErrCode), exec i s = .next t → t.errcode = some e →
    t = { s with pending := none, done := true, errcode := some e }) ∧
  ∀ (w : Word) (s t : State) (e : ErrCode), completeWord w s = .next t → t.errcode = some e →
    t = { s with pending := none, done := true, errcode := some e }

/-- R353: every command ends in success or with an error of its own set; XTS_DEC with INVALID_PADDING under ALWAYS only. -/
def Obligations.CommandsEndWithinTheirErrorSet : Prop :=
  ∀ (i : Instr) (s : State), ∃ t, exec i s = .next t ∧ t.pending = none ∧ t.done = true ∧
    (t.errcode = none ∨ ∃ e ∈ errorSet i, t.errcode = some e) ∧
    (i = .xtsDec → s.params.xtsPadPolicy = .ifUnaligned → t.errcode ≠ some .invalidPadding)

/-- R156: no command writes a location its rule does not name. -/
def Obligations.CommandsWriteOnlyTheirLocations : Prop :=
  ∀ (i : Instr) (s t : State), exec i s = .next t →
    (∀ a, ¬ mayWrite i t.olen.toNat a → t.byteAt a = s.byteAt a) ∧
    (writesOut i = false → i ≠ .clear → t.olen = s.olen) ∧
    (i ≠ .gfMul → i ≠ .clear → t.gfres = s.gfres) ∧
    (writesTrace i = false → i ≠ .clear → t.traceCount = s.traceCount) ∧
    (writesSchedule i = false → i ≠ .clear → t.ksValid = s.ksValid ∧ t.ksNr = s.ksNr) ∧
    { t with
      mem := s.mem, olen := s.olen, gfres := s.gfres, traceCount := s.traceCount, ksValid := s.ksValid, ksNr := s.ksNr,
      pending := s.pending, done := s.done, errcode := s.errcode } = s

/-- R97, R152, R204: a command's outcome depends on its operands alone: on two states that agree on the operands, whatever
ROUNDKEY, KS_VALID, DOUT, OLEN, TRACE and the flags hold, it ends with the same code and commits the same values. -/
def Obligations.OutcomeDependsOnOperandsAlone : Prop :=
  ∀ (i : Instr) (s u s' u' : State), SameOperands s u → exec i s = .next s' → exec i u = .next u' →
    s'.errcode = u'.errcode ∧
      (s'.errcode = none →
        (writesOut i = true → s'.olen = u'.olen) ∧
        (writesTrace i = true → s'.traceCount = u'.traceCount) ∧
        (writesSchedule i = true → s'.ksValid = u'.ksValid ∧ s'.ksNr = u'.ksNr) ∧
        (i = .gfMul → s'.gfres = u'.gfres) ∧
        ∀ a, inBuffer a → mayWrite i s'.olen.toNat a → s'.byteAt a = u'.byteAt a)

/-! ### GF(2^8) and the tables -/

/-- R186: GFRES becomes gf_mul(GFOP[7:0], GFOP[15:8]), and nothing else changes. -/
def Obligations.GfMulCommand : Prop :=
  decode 0x00000008 = .ok .gfMul ∧
  ∀ s : State, Answers .gfMul s
    { succeeded s with gfres := gfMul (s.gfop.extractLsb' 0 8) (s.gfop.extractLsb' 8 8) } s.byteAt

/-- R184, R185: gf_mul is the commutative product over XOR with unit 1 in which multiplying by x shifts and reduces by 0x1B;
these laws leave no other product. The last two are the corner cases R185 gives. -/
def Obligations.GfMulIsTheFieldProduct : Prop :=
  (∀ a b c : Byte, gfMul a b = gfMul b a ∧ gfMul a (b ^^^ c) = gfMul a b ^^^ gfMul a c ∧
    gfMul 0 b = 0 ∧ gfMul 1 b = b ∧
    gfMul 2 b = (if b.getLsbD 7 then (b <<< 1) ^^^ 0x1B else b <<< 1) ∧
    gfMul a (gfMul 2 b) = gfMul 2 (gfMul a b)) ∧
  gfMul 0x80 0x02 = 0x1B ∧ gfMul 0xFF 0xFF = 0x13

/-- R181 to R183: SBOX is the affine image of the inverse in GF(2^8), 0 mapping to 0; INV_SBOX is its inverse permutation
(the sentence of R182, not the table printed under it: log 1); RCON[j] = x^j. -/
def Obligations.TablesFollowTheField : Prop :=
  (∀ x b : Byte, (x = 0 ∧ b = 0) ∨ gfMul x b = 1 →
    sbox x = b ^^^ b.rotateLeft 1 ^^^ b.rotateLeft 2 ^^^ b.rotateLeft 3 ^^^ b.rotateLeft 4 ^^^ 0x63) ∧
  (∀ x : Byte, x ≠ 0 → ∃ b, gfMul x b = 1) ∧
  (∀ x : Byte, invSbox (sbox x) = x ∧ sbox (invSbox x) = x) ∧
  rcon 0 = 1 ∧ ∀ j, j < 9 → rcon (j + 1) = gfMul 2 (rcon j)

/-! ### The key schedule -/

/-- R202, R206: the schedule of a valid key: its size, its first words, and every later word byte by byte. -/
def Obligations.ExpandFollowsTheKeySchedule : Prop :=
  ∀ key : Bytes, aesKeyLength key.length →
    let nk := key.length / 4
    let w := scheduleByte key
    (expand key).length = 4 * (nk + 7) ∧ (∀ x ∈ expand key, x.length = 4) ∧
    (∀ i k, i < nk → k < 4 → w i k = nth key (4 * i + k)) ∧
    ∀ i k, nk ≤ i → i < 4 * (nk + 7) → k < 4 →
      w i k = w (i - nk) k ^^^
        (if i % nk = 0 then sbox (w (i - 1) ((k + 1) % 4)) ^^^ (if k = 0 then rcon (i / nk - 1) else 0)
        else if nk > 6 ∧ i % nk = 4 then sbox (w (i - 1) k)
        else w (i - 1) k)

/-- R205: KEY_EXPAND writes the schedule of KEY to ROUNDKEY and zeros after it, sets KS_VALID and KS_NR, and changes nothing
else; any KEYLEN but 16, 24 and 32 ends with KEY_LENGTH. -/
def Obligations.KeyExpandCommand : Prop :=
  decode 0x00000001 = .ok .keyExpand ∧
  ∀ s : State,
    (badKey s = false → Answers .keyExpand s
      { succeeded s with ksValid := true, ksNr := BitVec.ofNat 4 (s.keylen.toNat / 4 + 6) }
      (overlay s 0x0100 240 (roundKeyByte s.keyBytes))) ∧
    (badKey s = true → AnswersErr .keyExpand s .keyLength)

/-! ### Round transforms -/

/-- R220, R221, R230, R231: SUB_BYTES and INV_SUB_BYTES map each byte of STATE through the table. -/
def Obligations.SubBytesCommands : Prop :=
  decode 0x00000010 = .ok .subBytes ∧ decode 0x00000011 = .ok .invSubBytes ∧
  ∀ s : State,
    AnswersState .subBytes s (fun k => sbox (s.byteAt (0x0090 + k))) ∧
    AnswersState .invSubBytes s (fun k => invSbox (s.byteAt (0x0090 + k)))

/-- R222, R223, R232, R233: SHIFT_ROWS and INV_SHIFT_ROWS: byte 4c + r comes from column c + r, or c − r, modulo 4. -/
def Obligations.ShiftRowsCommands : Prop :=
  decode 0x00000012 = .ok .shiftRows ∧ decode 0x00000013 = .ok .invShiftRows ∧
  ∀ s : State,
    AnswersState .shiftRows s (fun k => s.byteAt (0x0090 + 4 * ((k / 4 + k % 4) % 4) + k % 4)) ∧
    AnswersState .invShiftRows s (fun k => s.byteAt (0x0090 + 4 * ((k / 4 + 4 - k % 4) % 4) + k % 4))

/-- R224, R225, R234, R235: MIX_COLUMNS and INV_MIX_COLUMNS: out[4c + r] = ⊕_k gf_mul(m[(k − r) mod 4], a_k). -/
def Obligations.MixColumnsCommands : Prop :=
  decode 0x00000014 = .ok .mixColumns ∧ decode 0x00000015 = .ok .invMixColumns ∧
  ∀ s : State,
    let mixed (m : Bytes) (i : Nat) : Byte := ((List.range 4).map fun k =>
      gfMul (nth m ((k + 4 - i % 4) % 4)) (s.byteAt (0x0090 + 4 * (i / 4) + k))).foldl (fun x y => x ^^^ y) 0
    AnswersState .mixColumns s (mixed [0x02, 0x03, 0x01, 0x01]) ∧
    AnswersState .invMixColumns s (mixed [0x0e, 0x0b, 0x0d, 0x09])

/-- R236: ADD_ROUND_KEY r XORs round key r of the current KEY into STATE; KEY_LENGTH comes before RANGE. -/
def Obligations.AddRoundKeyCommand : Prop :=
  (∀ r : Nat, r ≤ 15 → decode (0x00000016 ||| BitVec.ofNat 32 r <<< 16) = .ok (.addRoundKey r)) ∧
  ∀ (s : State) (r : Nat),
    (badKey s = false → r ≤ s.keylen.toNat / 4 + 6 →
      AnswersState (.addRoundKey r) s fun k =>
        s.byteAt (0x0090 + k) ^^^ scheduleByte s.keyBytes (4 * r + k / 4) (k % 4)) ∧
    (badKey s = true → AnswersErr (.addRoundKey r) s .keyLength) ∧
    (badKey s = false → s.keylen.toNat / 4 + 6 < r → AnswersErr (.addRoundKey r) s .range)

/-! ### The block cipher -/

/-- R250: E is AddRoundKey 0, then Nr − 1 full rounds, then a round without MixColumns. -/
def Obligations.EncryptFollowsTheRounds : Prop :=
  ∀ key b : Bytes, aesKeyLength key.length →
    let nr := key.length / 4 + 6
    let rk := roundKey (expand key)
    let mid := (List.range (nr - 1)).foldl
      (fun s r => addRoundKey (mixColumns (shiftRows (subBytes s))) (rk (r + 1))) (addRoundKey b (rk 0))
    encryptBlock key b = addRoundKey (shiftRows (subBytes mid)) (rk nr)

/-- R251 with C1: D is AddRoundKey Nr, then the rounds of keys Nr − 1 down to 1, each ending with InvMixColumns, then a round
without it. -/
def Obligations.DecryptFollowsTheRounds : Prop :=
  ∀ key b : Bytes, aesKeyLength key.length →
    let nr := key.length / 4 + 6
    let rk := roundKey (expand key)
    let mid := (List.range (nr - 1)).foldl
      (fun s r => invMixColumns (addRoundKey (invSubBytes (invShiftRows s)) (rk (nr - 1 - r)))) (addRoundKey b (rk nr))
    decryptBlock key b = addRoundKey (invSubBytes (invShiftRows mid)) (rk 0)

/-- R259: D(K, E(K, b)) = b for every valid key and every block. -/
def Obligations.DecryptInvertsEncrypt : Prop :=
  ∀ key b : Bytes, aesKeyLength key.length → b.length = 16 → decryptBlock key (encryptBlock key b) = b

/-- R259: the known answers for the three key sizes (95_test_vectors.md L1-1, L2-4). -/
def Obligations.KnownAnswers : Prop :=
  encryptBlock (testKey 16) testBlock =
      [0x69, 0xc4, 0xe0, 0xd8, 0x6a, 0x7b, 0x04, 0x30, 0xd8, 0xcd, 0xb7, 0x80, 0x70, 0xb4, 0xc5, 0x5a] ∧
    encryptBlock (testKey 24) testBlock =
      [0xdd, 0xa9, 0x7c, 0xa4, 0x86, 0x4c, 0xdf, 0xe0, 0x6e, 0xaf, 0x70, 0xa0, 0xec, 0x0d, 0x71, 0x91] ∧
    encryptBlock (testKey 32) testBlock =
      [0x8e, 0xa2, 0xb7, 0xca, 0x51, 0x67, 0x45, 0xbf, 0xea, 0xfc, 0x49, 0x90, 0x4b, 0x49, 0x60, 0x89]

/-- R254, R255: BLOCK_ENC and BLOCK_DEC: DOUT[0..15] = E or D of DIN[0..15], OLEN = 16; the errors in their order. -/
def Obligations.BlockCommands : Prop :=
  decode 0x00000002 = .ok .blockEnc ∧ decode 0x00000003 = .ok .blockDec ∧
  ∀ s : State,
    (blockChecks s = none →
      AnswersOut .blockEnc s 16 (nth (E s (blockOf (dinByte s) 0))) ∧
      AnswersOut .blockDec s 16 (nth (D s (blockOf (dinByte s) 0)))) ∧
    ∀ e, blockChecks s = some e → AnswersErr .blockEnc s e ∧ AnswersErr .blockDec s e

/-- R256 to R258: the traced block commands: the output of the untraced ones, and the trace and the schedule with it. -/
def Obligations.TracedBlockCommands : Prop :=
  decode 0x00001002 = .ok .blockEncT ∧ decode 0x00001003 = .ok .blockDecT ∧
  ∀ s : State,
    (blockChecks s = none →
      AnswersTraced .blockEncT s (E s (blockOf (dinByte s) 0)) (encryptTrace s.keyBytes (blockOf (dinByte s) 0)) ∧
      AnswersTraced .blockDecT s (D s (blockOf (dinByte s) 0)) (decryptTrace s.keyBytes (blockOf (dinByte s) 0))) ∧
    ∀ e, blockChecks s = some e → AnswersErr .blockEncT s e ∧ AnswersErr .blockDecT s e

/-- R252, R253: the traces of E and D: 4·Nr records with the labels of R250 and R251, each state made from the one before,
the last one the result. -/
def Obligations.TracesRecordEveryStep : Prop :=
  ∀ key b : Bytes, aesKeyLength key.length →
    IsTrace key b (encryptBlock key b) (encryptTrace key b) encLabel ∧
    IsTrace key b (decryptBlock key b) (decryptTrace key b) decLabel

/-- R237: the sequence of single-step commands leaves in STATE the block that E makes of it, and BLOCK_ENC writes that block
to DOUT when DIN holds what STATE held. -/
def Obligations.SingleStepsComputeTheCipher : Prop :=
  ∀ s : State, badKey s = false →
    ∃ t, runCommands (singleSteps (s.keylen.toNat / 4 + 6)) s = .next t ∧ t.errcode = none ∧
      t.stateBytes = encryptBlock s.keyBytes s.stateBytes ∧
      ∀ u v : State, u.keylen = s.keylen → u.keyBytes = s.keyBytes → u.dlen = 16 → u.blockIn = s.stateBytes →
        exec .blockEnc u = .next v → v.buf .dout 16 = t.stateBytes

/-! ### Padding -/

/-- R280, R282: PAD copies DIN[0..DLEN−1] and appends 16 − (DLEN mod 16) bytes of that value. -/
def Obligations.PadCommand : Prop :=
  decode 0x00000006 = .ok .pad ∧
  ∀ s : State,
    (longData s = false → AnswersOut .pad s (paddedLen s) (paddedByte s)) ∧
    (longData s = true → AnswersErr .pad s .range)

/-- R281, R283: UNPAD strips valid padding and fails with INVALID_PADDING otherwise; RANGE comes first. -/
def Obligations.UnpadCommand : Prop :=
  decode 0x00000007 = .ok .unpad ∧
  ∀ s : State,
    (longData s = false → AnswersUnpadded .unpad s (dinByte s) s.dlen.toNat) ∧
    (longData s = true → AnswersErr .unpad s .range)

/-- R284: unpad undoes pad, refuses a bad last byte, and accepts only what pad's form allows. -/
def Obligations.UnpadInvertsPad : Prop :=
  (∀ d : Bytes, unpadBytes (padBytes d) = .ok d) ∧
    (∀ (d : Bytes) (last : Byte), d.getLast? = some last → last = 0 ∨ 16 < last.toNat →
      unpadBytes d = .error .invalidPadding) ∧
    (∀ (d : Bytes) (e : ErrCode), unpadBytes d = .error e → e = .invalidPadding) ∧
    ∀ d out : Bytes, unpadBytes d = .ok out →
      ∃ n, 1 ≤ n ∧ n ≤ 16 ∧ d = out ++ List.replicate n (BitVec.ofNat 8 n)

/-! ### Modes -/

/-- R301, R302: ECB. -/
def Obligations.EcbCommands : Prop :=
  decode 0x00000004 = .ok .ecbEnc ∧ decode 0x00000005 = .ok .ecbDec ∧
  ∀ s : State,
    (ecbEncChecks s = none →
      AnswersOut .ecbEnc s (paddedLen s) (byteOfBlocks fun j => E s (blockOf (paddedByte s) j))) ∧
    (∀ e, ecbEncChecks s = some e → AnswersErr .ecbEnc s e) ∧
    (ecbDecChecks s = none →
      AnswersUnpadded .ecbDec s (byteOfBlocks fun j => D s (blockOf (dinByte s) j)) s.dlen.toNat) ∧
    ∀ e, ecbDecChecks s = some e → AnswersErr .ecbDec s e

/-- R303, R304: CBC. -/
def Obligations.CbcCommands : Prop :=
  decode 0x00000104 = .ok .cbcEnc ∧ decode 0x00000105 = .ok .cbcDec ∧
  ∀ s : State,
    (ivChecks s = none → AnswersOut .cbcEnc s (paddedLen s) (byteOfBlocks (cbcCipher s))) ∧
    (∀ e, ivChecks s = some e → AnswersErr .cbcEnc s e) ∧
    (cbcDecChecks s = none → AnswersUnpadded .cbcDec s (byteOfBlocks (cbcPlain s)) s.dlen.toNat) ∧
    ∀ e, cbcDecChecks s = some e → AnswersErr .cbcDec s e

/-- R305 to R307: CTR, the same in both directions. -/
def Obligations.CtrCommands : Prop :=
  decode 0x00000204 = .ok .ctrEnc ∧ decode 0x00000205 = .ok .ctrDec ∧
  ∀ s : State,
    (nonceChecks s = none →
      AnswersOut .ctrEnc s s.dlen.toNat (streamByte s (ctrKey s)) ∧
      AnswersOut .ctrDec s s.dlen.toNat (streamByte s (ctrKey s))) ∧
    ∀ e, nonceChecks s = some e → AnswersErr .ctrEnc s e ∧ AnswersErr .ctrDec s e

/-- R308, R309: CFB. -/
def Obligations.CfbCommands : Prop :=
  decode 0x00000304 = .ok .cfbEnc ∧ decode 0x00000305 = .ok .cfbDec ∧
  ∀ s : State,
    (ivChecks s = none →
      AnswersOut .cfbEnc s s.dlen.toNat (streamByte s (cfbEncKey s)) ∧
      AnswersOut .cfbDec s s.dlen.toNat (streamByte s (cfbDecKey s))) ∧
    ∀ e, ivChecks s = some e → AnswersErr .cfbEnc s e ∧ AnswersErr .cfbDec s e

/-- R310, R311: OFB, the same in both directions. -/
def Obligations.OfbCommands : Prop :=
  decode 0x00000404 = .ok .ofbEnc ∧ decode 0x00000405 = .ok .ofbDec ∧
  ∀ s : State,
    (ivChecks s = none →
      AnswersOut .ofbEnc s s.dlen.toNat (streamByte s (ofbKey s)) ∧
      AnswersOut .ofbDec s s.dlen.toNat (streamByte s (ofbKey s))) ∧
    ∀ e, ivChecks s = some e → AnswersErr .ofbEnc s e ∧ AnswersErr .ofbDec s e

/-- R313: mulα doubles the 128-bit number t, t[0] least significant, and folds a carry in as 0x87. -/
def Obligations.MulAlphaDoubles : Prop :=
  ∀ t : Bytes, t.length = 16 →
    (mulAlpha t).length = 16 ∧
    leNat (mulAlpha t) =
      if leNat t < 2 ^ 127 then 2 * leNat t else (2 * leNat t - 2 ^ 128) ^^^ 0x87

/-- R312 to R315: XTS under every tweak schedule and pad policy. -/
def Obligations.XtsCommands : Prop :=
  decode 0x00000504 = .ok .xtsEnc ∧ decode 0x00000505 = .ok .xtsDec ∧
  ∀ s : State,
    (xtsEncChecks s = none → (s.params.xtsPadPolicy = .always ∨ raggedData s = true) →
      AnswersOut .xtsEnc s (paddedLen s) (byteOfBlocks (xtsCipher s (paddedByte s)))) ∧
    (xtsEncChecks s = none → s.params.xtsPadPolicy = .ifUnaligned → raggedData s = false →
      AnswersOut .xtsEnc s s.dlen.toNat (byteOfBlocks (xtsCipher s (dinByte s)))) ∧
    (∀ e, xtsEncChecks s = some e → AnswersErr .xtsEnc s e) ∧
    (xtsDecChecks s = none → s.params.xtsPadPolicy = .always →
      AnswersUnpadded .xtsDec s (byteOfBlocks (xtsPlain s)) s.dlen.toNat) ∧
    (xtsDecChecks s = none → s.params.xtsPadPolicy = .ifUnaligned →
      AnswersOut .xtsDec s s.dlen.toNat (byteOfBlocks (xtsPlain s))) ∧
    ∀ e, xtsDecChecks s = some e → AnswersErr .xtsDec s e

/-- R316 to R319: GCM-S. The tag is KEYED_HASH(K, P ‖ A), P the plaintext; nothing is assumed of KEYED_HASH. -/
def Obligations.GcmCommands : Prop :=
  decode 0x00000604 = .ok .gcmEnc ∧ decode 0x00000605 = .ok .gcmDec ∧ decode 0x00002605 = .ok .gcmDecNv ∧
  ∀ s : State,
    let stream := streamByte s (ctrKey s)
    let n := s.dlen.toNat
    let aad := (List.range s.aadlen.toNat).map fun k => s.byteAt (0x0200 + k)
    let tag (p : Nat → Byte) : Bytes := (Config.keyedHash s.keyBytes ((List.range n).map p ++ aad)).toList
    (gcmChecks s = none →
      Answers .gcmEnc s { succeeded s with olen := s.dlen }
        (fun a => if 0x00A0 ≤ a ∧ a < 0x00B0 then nth (tag (dinByte s)) (a - 0x00A0) else overlay s 0x2000 n stream a) ∧
      AnswersOut .gcmDecNv s n stream ∧
      ((∀ k, k < 16 → s.byteAt (0x00A0 + k) = nth (tag stream) k) → AnswersOut .gcmDec s n stream) ∧
      (¬ (∀ k, k < 16 → s.byteAt (0x00A0 + k) = nth (tag stream) k) → AnswersErr .gcmDec s .authentication)) ∧
    ∀ e, gcmChecks s = some e → AnswersErr .gcmEnc s e ∧ AnswersErr .gcmDec s e ∧ AnswersErr .gcmDecNv s e

/-- R321: encryption followed by decryption gives the data back, for every data, in the streaming modes. -/
def Obligations.StreamModesRoundTrip : Prop :=
  ∀ key iv nonce x : Bytes, aesKeyLength key.length → iv.length = 16 → nonce.length = 12 →
    ctrStream (encryptBlock key) nonce (ctrStream (encryptBlock key) nonce x) = x ∧
    cfbDecBlocks (encryptBlock key) iv (blocks (cfbEncBlocks (encryptBlock key) iv (blocks x))) = x ∧
    ofbBlocks (encryptBlock key) iv (blocks (ofbBlocks (encryptBlock key) iv (blocks x))) = x

/-- R321: the same in the padded modes, XTS under ALWAYS and any tweaks of 16 bytes; the output length on the way. -/
def Obligations.PaddedModesRoundTrip : Prop :=
  ∀ (key iv x : Bytes) (tweak : Nat → Bytes), aesKeyLength key.length → iv.length = 16 →
    (∀ j, (tweak j).length = 16) →
    let e := encryptBlock key
    let d := decryptBlock key
    let n := x.length + (16 - x.length % 16)
    (ecbBlocks e (padBytes x)).length = n ∧
    unpadBytes (ecbBlocks d (ecbBlocks e (padBytes x))) = .ok x ∧
    (cbcEncBlocks e iv (blocks (padBytes x))).length = n ∧
    unpadBytes (cbcDecBlocks d iv (blocks (cbcEncBlocks e iv (blocks (padBytes x))))) = .ok x ∧
    (xtsBlocks e tweak 0 (blocks (padBytes x))).length = n ∧
    unpadBytes (xtsBlocks d tweak 0 (blocks (xtsBlocks e tweak 0 (blocks (padBytes x))))) = .ok x

/-! ### System commands -/

/-- R160: CLEAR zeroes the nine buffers, OLEN, GFRES, TRACE_COUNT, KS_VALID and KS_NR, and changes nothing else. -/
def Obligations.ClearCommand : Prop :=
  decode 0x00000009 = .ok .clear ∧
  ∀ s : State, ∃ t, exec .clear s = .next t ∧
    { t with mem := s.mem } =
      { succeeded s with olen := 0, gfres := 0, traceCount := 0, ksValid := false, ksNr := 0 } ∧
    ∀ a, (inBuffer a → t.byteAt a = 0) ∧ (¬ inBuffer a → t.byteAt a = s.byteAt a)

/-- R320: the commands of an unrecognised mode end with UNSUPPORTED_MODE, whatever their operands, and commit nothing; so do
their words, and TRACE = 1 on these words gives ILLEGAL_CMD. -/
def Obligations.UnsupportedModeCommands : Prop :=
  (∀ (s : State) (mode : Nat) (nv : Bool),
    AnswersErr .modeEncUnsupported7 s .unsupportedMode ∧
    AnswersErr (.modeEncUnsupported8to15 mode) s .unsupportedMode ∧
    AnswersErr (.modeDecUnsupported7 nv) s .unsupportedMode ∧
    AnswersErr (.modeDecUnsupported8to15 mode nv) s .unsupportedMode) ∧
  ∀ (s : State) (mode : Nat) (w : Word), 7 ≤ mode → mode ≤ 15 →
    w = BitVec.ofNat 32 (0x0004 + 256 * mode) ∨ w = BitVec.ofNat 32 (0x0005 + 256 * mode) ∨
      w = BitVec.ofNat 32 (0x2005 + 256 * mode) →
    completeWord w s = .next { s with pending := none, done := true, errcode := some .unsupportedMode } ∧
    completeWord (w ||| 0x00001000) s = .next { s with pending := none, done := true, errcode := some .illegalCmd }

/-! ### Further laws of the modes -/

/-- R321: XTS under IF_UNALIGNED gives back the data as it was encrypted, so it round-trips exactly for block-aligned data (it
rests on log 1 as all decryption does); block j of ECB and of CTR depends on block j of the input alone. -/
def Obligations.UnalignedXtsAndIndependentBlocks : Prop :=
  (∀ (key x : Bytes) (tweak : Nat → Bytes), aesKeyLength key.length → (∀ j, (tweak j).length = 16) →
    let cipher := xtsBlocks (encryptBlock key) tweak 0 (blocks (xtsPad .ifUnaligned x))
    let plain := xtsUnpad .ifUnaligned (xtsBlocks (decryptBlock key) tweak 0 (blocks cipher))
    cipher.length = (if x.length % 16 = 0 then x.length else x.length + (16 - x.length % 16)) ∧
    plain = .ok (xtsPad .ifUnaligned x) ∧ (plain = .ok x ↔ x.length % 16 = 0)) ∧
  ∀ (key nonce x y : Bytes) (j : Nat), aesKeyLength key.length → nonce.length = 12 → x.length = y.length →
    (blocks x)[j]? = (blocks y)[j]? →
    (x.length % 16 = 0 →
      (blocks (ecbBlocks (encryptBlock key) x))[j]? = (blocks (ecbBlocks (encryptBlock key) y))[j]? ∧
      (blocks (ecbBlocks (decryptBlock key) x))[j]? = (blocks (ecbBlocks (decryptBlock key) y))[j]?) ∧
    (blocks (ctrStream (encryptBlock key) nonce x))[j]? = (blocks (ctrStream (encryptBlock key) nonce y))[j]?
end

