-- ==== Sys2Proof/Laws/State.lean ====
section
/-! SUPPORT. What each named update does to each field of State: one lemma per field and update, true by rfl. -/

namespace Sys2Proof.Machine

variable (s : State)

/-! ### accept -/

@[simp] theorem State.accept_irqEn (w : Word) : (s.accept w).irqEn = s.irqEn := rfl
@[simp] theorem State.accept_done (w : Word) : (s.accept w).done = false := rfl
@[simp] theorem State.accept_wdrop (w : Word) : (s.accept w).wdrop = s.wdrop := rfl
@[simp] theorem State.accept_errcode (w : Word) : (s.accept w).errcode = none := rfl
@[simp] theorem State.accept_ksValid (w : Word) : (s.accept w).ksValid = s.ksValid := rfl
@[simp] theorem State.accept_ksNr (w : Word) : (s.accept w).ksNr = s.ksNr := rfl
@[simp] theorem State.accept_pending (w : Word) : (s.accept w).pending = some w := rfl
@[simp] theorem State.accept_keylen (w : Word) : (s.accept w).keylen = s.keylen := rfl
@[simp] theorem State.accept_ivlen (w : Word) : (s.accept w).ivlen = s.ivlen := rfl
@[simp] theorem State.accept_dlen (w : Word) : (s.accept w).dlen = s.dlen := rfl
@[simp] theorem State.accept_aadlen (w : Word) : (s.accept w).aadlen = s.aadlen := rfl
@[simp] theorem State.accept_olen (w : Word) : (s.accept w).olen = s.olen := rfl
@[simp] theorem State.accept_sector (w : Word) : (s.accept w).sector = s.sector := rfl
@[simp] theorem State.accept_gfop (w : Word) : (s.accept w).gfop = s.gfop := rfl
@[simp] theorem State.accept_gfres (w : Word) : (s.accept w).gfres = s.gfres := rfl
@[simp] theorem State.accept_traceCount (w : Word) : (s.accept w).traceCount = s.traceCount := rfl
@[simp] theorem State.accept_mem (w : Word) : (s.accept w).mem = s.mem := rfl
@[simp] theorem State.accept_params (w : Word) : (s.accept w).params = s.params := rfl
@[simp] theorem State.accept_schedule (w : Word) : (s.accept w).schedule = s.schedule := rfl
@[simp] theorem State.accept_response (w : Word) : (s.accept w).response = s.response := rfl
@[simp] theorem State.accept_resets (w : Word) : (s.accept w).resets = s.resets := rfl
@[simp] theorem State.accept_draws (w : Word) : (s.accept w).draws = s.draws := rfl

/-! ### completeOk -/

@[simp] theorem State.completeOk_irqEn : (s.completeOk).irqEn = s.irqEn := rfl
@[simp] theorem State.completeOk_done : (s.completeOk).done = true := rfl
@[simp] theorem State.completeOk_wdrop : (s.completeOk).wdrop = s.wdrop := rfl
@[simp] theorem State.completeOk_errcode : (s.completeOk).errcode = none := rfl
@[simp] theorem State.completeOk_ksValid : (s.completeOk).ksValid = s.ksValid := rfl
@[simp] theorem State.completeOk_ksNr : (s.completeOk).ksNr = s.ksNr := rfl
@[simp] theorem State.completeOk_pending : (s.completeOk).pending = none := rfl
@[simp] theorem State.completeOk_keylen : (s.completeOk).keylen = s.keylen := rfl
@[simp] theorem State.completeOk_ivlen : (s.completeOk).ivlen = s.ivlen := rfl
@[simp] theorem State.completeOk_dlen : (s.completeOk).dlen = s.dlen := rfl
@[simp] theorem State.completeOk_aadlen : (s.completeOk).aadlen = s.aadlen := rfl
@[simp] theorem State.completeOk_olen : (s.completeOk).olen = s.olen := rfl
@[simp] theorem State.completeOk_sector : (s.completeOk).sector = s.sector := rfl
@[simp] theorem State.completeOk_gfop : (s.completeOk).gfop = s.gfop := rfl
@[simp] theorem State.completeOk_gfres : (s.completeOk).gfres = s.gfres := rfl
@[simp] theorem State.completeOk_traceCount : (s.completeOk).traceCount = s.traceCount := rfl
@[simp] theorem State.completeOk_mem : (s.completeOk).mem = s.mem := rfl
@[simp] theorem State.completeOk_params : (s.completeOk).params = s.params := rfl
@[simp] theorem State.completeOk_schedule : (s.completeOk).schedule = s.schedule := rfl
@[simp] theorem State.completeOk_response : (s.completeOk).response = s.response := rfl
@[simp] theorem State.completeOk_resets : (s.completeOk).resets = s.resets := rfl
@[simp] theorem State.completeOk_draws : (s.completeOk).draws = s.draws := rfl

/-! ### completeErr -/

@[simp] theorem State.completeErr_irqEn (e : ErrCode) : (s.completeErr e).irqEn = s.irqEn := rfl
@[simp] theorem State.completeErr_done (e : ErrCode) : (s.completeErr e).done = true := rfl
@[simp] theorem State.completeErr_wdrop (e : ErrCode) : (s.completeErr e).wdrop = s.wdrop := rfl
@[simp] theorem State.completeErr_errcode (e : ErrCode) : (s.completeErr e).errcode = some e := rfl
@[simp] theorem State.completeErr_ksValid (e : ErrCode) : (s.completeErr e).ksValid = s.ksValid := rfl
@[simp] theorem State.completeErr_ksNr (e : ErrCode) : (s.completeErr e).ksNr = s.ksNr := rfl
@[simp] theorem State.completeErr_pending (e : ErrCode) : (s.completeErr e).pending = none := rfl
@[simp] theorem State.completeErr_keylen (e : ErrCode) : (s.completeErr e).keylen = s.keylen := rfl
@[simp] theorem State.completeErr_ivlen (e : ErrCode) : (s.completeErr e).ivlen = s.ivlen := rfl
@[simp] theorem State.completeErr_dlen (e : ErrCode) : (s.completeErr e).dlen = s.dlen := rfl
@[simp] theorem State.completeErr_aadlen (e : ErrCode) : (s.completeErr e).aadlen = s.aadlen := rfl
@[simp] theorem State.completeErr_olen (e : ErrCode) : (s.completeErr e).olen = s.olen := rfl
@[simp] theorem State.completeErr_sector (e : ErrCode) : (s.completeErr e).sector = s.sector := rfl
@[simp] theorem State.completeErr_gfop (e : ErrCode) : (s.completeErr e).gfop = s.gfop := rfl
@[simp] theorem State.completeErr_gfres (e : ErrCode) : (s.completeErr e).gfres = s.gfres := rfl
@[simp] theorem State.completeErr_traceCount (e : ErrCode) : (s.completeErr e).traceCount = s.traceCount := rfl
@[simp] theorem State.completeErr_mem (e : ErrCode) : (s.completeErr e).mem = s.mem := rfl
@[simp] theorem State.completeErr_params (e : ErrCode) : (s.completeErr e).params = s.params := rfl
@[simp] theorem State.completeErr_schedule (e : ErrCode) : (s.completeErr e).schedule = s.schedule := rfl
@[simp] theorem State.completeErr_response (e : ErrCode) : (s.completeErr e).response = s.response := rfl
@[simp] theorem State.completeErr_resets (e : ErrCode) : (s.completeErr e).resets = s.resets := rfl
@[simp] theorem State.completeErr_draws (e : ErrCode) : (s.completeErr e).draws = s.draws := rfl

/-! ### ackDone -/

@[simp] theorem State.ackDone_irqEn : (s.ackDone).irqEn = s.irqEn := rfl
@[simp] theorem State.ackDone_done : (s.ackDone).done = false := rfl
@[simp] theorem State.ackDone_wdrop : (s.ackDone).wdrop = s.wdrop := rfl
@[simp] theorem State.ackDone_errcode : (s.ackDone).errcode = s.errcode := rfl
@[simp] theorem State.ackDone_ksValid : (s.ackDone).ksValid = s.ksValid := rfl
@[simp] theorem State.ackDone_ksNr : (s.ackDone).ksNr = s.ksNr := rfl
@[simp] theorem State.ackDone_pending : (s.ackDone).pending = s.pending := rfl
@[simp] theorem State.ackDone_keylen : (s.ackDone).keylen = s.keylen := rfl
@[simp] theorem State.ackDone_ivlen : (s.ackDone).ivlen = s.ivlen := rfl
@[simp] theorem State.ackDone_dlen : (s.ackDone).dlen = s.dlen := rfl
@[simp] theorem State.ackDone_aadlen : (s.ackDone).aadlen = s.aadlen := rfl
@[simp] theorem State.ackDone_olen : (s.ackDone).olen = s.olen := rfl
@[simp] theorem State.ackDone_sector : (s.ackDone).sector = s.sector := rfl
@[simp] theorem State.ackDone_gfop : (s.ackDone).gfop = s.gfop := rfl
@[simp] theorem State.ackDone_gfres : (s.ackDone).gfres = s.gfres := rfl
@[simp] theorem State.ackDone_traceCount : (s.ackDone).traceCount = s.traceCount := rfl
@[simp] theorem State.ackDone_mem : (s.ackDone).mem = s.mem := rfl
@[simp] theorem State.ackDone_params : (s.ackDone).params = s.params := rfl
@[simp] theorem State.ackDone_schedule : (s.ackDone).schedule = s.schedule := rfl
@[simp] theorem State.ackDone_response : (s.ackDone).response = s.response := rfl
@[simp] theorem State.ackDone_resets : (s.ackDone).resets = s.resets := rfl
@[simp] theorem State.ackDone_draws : (s.ackDone).draws = s.draws := rfl

/-! ### respond -/

@[simp] theorem State.respond_irqEn (r : Response) : (s.respond r).irqEn = s.irqEn := rfl
@[simp] theorem State.respond_done (r : Response) : (s.respond r).done = s.done := rfl
@[simp] theorem State.respond_wdrop (r : Response) : (s.respond r).wdrop = s.wdrop := rfl
@[simp] theorem State.respond_errcode (r : Response) : (s.respond r).errcode = s.errcode := rfl
@[simp] theorem State.respond_ksValid (r : Response) : (s.respond r).ksValid = s.ksValid := rfl
@[simp] theorem State.respond_ksNr (r : Response) : (s.respond r).ksNr = s.ksNr := rfl
@[simp] theorem State.respond_pending (r : Response) : (s.respond r).pending = s.pending := rfl
@[simp] theorem State.respond_keylen (r : Response) : (s.respond r).keylen = s.keylen := rfl
@[simp] theorem State.respond_ivlen (r : Response) : (s.respond r).ivlen = s.ivlen := rfl
@[simp] theorem State.respond_dlen (r : Response) : (s.respond r).dlen = s.dlen := rfl
@[simp] theorem State.respond_aadlen (r : Response) : (s.respond r).aadlen = s.aadlen := rfl
@[simp] theorem State.respond_olen (r : Response) : (s.respond r).olen = s.olen := rfl
@[simp] theorem State.respond_sector (r : Response) : (s.respond r).sector = s.sector := rfl
@[simp] theorem State.respond_gfop (r : Response) : (s.respond r).gfop = s.gfop := rfl
@[simp] theorem State.respond_gfres (r : Response) : (s.respond r).gfres = s.gfres := rfl
@[simp] theorem State.respond_traceCount (r : Response) : (s.respond r).traceCount = s.traceCount := rfl
@[simp] theorem State.respond_mem (r : Response) : (s.respond r).mem = s.mem := rfl
@[simp] theorem State.respond_params (r : Response) : (s.respond r).params = s.params := rfl
@[simp] theorem State.respond_schedule (r : Response) : (s.respond r).schedule = s.schedule := rfl
@[simp] theorem State.respond_response (r : Response) : (s.respond r).response = some r := rfl
@[simp] theorem State.respond_resets (r : Response) : (s.respond r).resets = s.resets := rfl
@[simp] theorem State.respond_draws (r : Response) : (s.respond r).draws = s.draws := rfl

/-! ### dropSchedule -/

@[simp] theorem State.dropSchedule_irqEn : (s.dropSchedule).irqEn = s.irqEn := rfl
@[simp] theorem State.dropSchedule_done : (s.dropSchedule).done = s.done := rfl
@[simp] theorem State.dropSchedule_wdrop : (s.dropSchedule).wdrop = s.wdrop := rfl
@[simp] theorem State.dropSchedule_errcode : (s.dropSchedule).errcode = s.errcode := rfl
@[simp] theorem State.dropSchedule_ksValid : (s.dropSchedule).ksValid = false := rfl
@[simp] theorem State.dropSchedule_ksNr : (s.dropSchedule).ksNr = 0 := rfl
@[simp] theorem State.dropSchedule_pending : (s.dropSchedule).pending = s.pending := rfl
@[simp] theorem State.dropSchedule_keylen : (s.dropSchedule).keylen = s.keylen := rfl
@[simp] theorem State.dropSchedule_ivlen : (s.dropSchedule).ivlen = s.ivlen := rfl
@[simp] theorem State.dropSchedule_dlen : (s.dropSchedule).dlen = s.dlen := rfl
@[simp] theorem State.dropSchedule_aadlen : (s.dropSchedule).aadlen = s.aadlen := rfl
@[simp] theorem State.dropSchedule_olen : (s.dropSchedule).olen = s.olen := rfl
@[simp] theorem State.dropSchedule_sector : (s.dropSchedule).sector = s.sector := rfl
@[simp] theorem State.dropSchedule_gfop : (s.dropSchedule).gfop = s.gfop := rfl
@[simp] theorem State.dropSchedule_gfres : (s.dropSchedule).gfres = s.gfres := rfl
@[simp] theorem State.dropSchedule_traceCount : (s.dropSchedule).traceCount = s.traceCount := rfl
@[simp] theorem State.dropSchedule_mem : (s.dropSchedule).mem = s.mem := rfl
@[simp] theorem State.dropSchedule_params : (s.dropSchedule).params = s.params := rfl
@[simp] theorem State.dropSchedule_schedule : (s.dropSchedule).schedule = s.schedule := rfl
@[simp] theorem State.dropSchedule_response : (s.dropSchedule).response = s.response := rfl
@[simp] theorem State.dropSchedule_resets : (s.dropSchedule).resets = s.resets := rfl
@[simp] theorem State.dropSchedule_draws : (s.dropSchedule).draws = s.draws := rfl

/-! ### setBuf -/

@[simp] theorem State.setBuf_irqEn (b : Buf) (bs : Bytes) : (s.setBuf b bs).irqEn = s.irqEn := rfl
@[simp] theorem State.setBuf_done (b : Buf) (bs : Bytes) : (s.setBuf b bs).done = s.done := rfl
@[simp] theorem State.setBuf_wdrop (b : Buf) (bs : Bytes) : (s.setBuf b bs).wdrop = s.wdrop := rfl
@[simp] theorem State.setBuf_errcode (b : Buf) (bs : Bytes) : (s.setBuf b bs).errcode = s.errcode := rfl
@[simp] theorem State.setBuf_ksValid (b : Buf) (bs : Bytes) : (s.setBuf b bs).ksValid = s.ksValid := rfl
@[simp] theorem State.setBuf_ksNr (b : Buf) (bs : Bytes) : (s.setBuf b bs).ksNr = s.ksNr := rfl
@[simp] theorem State.setBuf_pending (b : Buf) (bs : Bytes) : (s.setBuf b bs).pending = s.pending := rfl
@[simp] theorem State.setBuf_keylen (b : Buf) (bs : Bytes) : (s.setBuf b bs).keylen = s.keylen := rfl
@[simp] theorem State.setBuf_ivlen (b : Buf) (bs : Bytes) : (s.setBuf b bs).ivlen = s.ivlen := rfl
@[simp] theorem State.setBuf_dlen (b : Buf) (bs : Bytes) : (s.setBuf b bs).dlen = s.dlen := rfl
@[simp] theorem State.setBuf_aadlen (b : Buf) (bs : Bytes) : (s.setBuf b bs).aadlen = s.aadlen := rfl
@[simp] theorem State.setBuf_olen (b : Buf) (bs : Bytes) : (s.setBuf b bs).olen = s.olen := rfl
@[simp] theorem State.setBuf_sector (b : Buf) (bs : Bytes) : (s.setBuf b bs).sector = s.sector := rfl
@[simp] theorem State.setBuf_gfop (b : Buf) (bs : Bytes) : (s.setBuf b bs).gfop = s.gfop := rfl
@[simp] theorem State.setBuf_gfres (b : Buf) (bs : Bytes) : (s.setBuf b bs).gfres = s.gfres := rfl
@[simp] theorem State.setBuf_traceCount (b : Buf) (bs : Bytes) : (s.setBuf b bs).traceCount = s.traceCount := rfl
@[simp] theorem State.setBuf_mem (b : Buf) (bs : Bytes) : (s.setBuf b bs).mem = s.mem.setRange b.base bs := rfl
@[simp] theorem State.setBuf_params (b : Buf) (bs : Bytes) : (s.setBuf b bs).params = s.params := rfl
@[simp] theorem State.setBuf_schedule (b : Buf) (bs : Bytes) : (s.setBuf b bs).schedule = s.schedule := rfl
@[simp] theorem State.setBuf_response (b : Buf) (bs : Bytes) : (s.setBuf b bs).response = s.response := rfl
@[simp] theorem State.setBuf_resets (b : Buf) (bs : Bytes) : (s.setBuf b bs).resets = s.resets := rfl
@[simp] theorem State.setBuf_draws (b : Buf) (bs : Bytes) : (s.setBuf b bs).draws = s.draws := rfl

/-! ### setBufByte -/

@[simp] theorem State.setBufByte_irqEn (b : Buf) (i : Nat) (x : Byte) : (s.setBufByte b i x).irqEn = s.irqEn := rfl
@[simp] theorem State.setBufByte_done (b : Buf) (i : Nat) (x : Byte) : (s.setBufByte b i x).done = s.done := rfl
@[simp] theorem State.setBufByte_wdrop (b : Buf) (i : Nat) (x : Byte) : (s.setBufByte b i x).wdrop = s.wdrop := rfl
@[simp] theorem State.setBufByte_errcode (b : Buf) (i : Nat) (x : Byte) : (s.setBufByte b i x).errcode = s.errcode := rfl
@[simp] theorem State.setBufByte_ksValid (b : Buf) (i : Nat) (x : Byte) : (s.setBufByte b i x).ksValid = s.ksValid := rfl
@[simp] theorem State.setBufByte_ksNr (b : Buf) (i : Nat) (x : Byte) : (s.setBufByte b i x).ksNr = s.ksNr := rfl
@[simp] theorem State.setBufByte_pending (b : Buf) (i : Nat) (x : Byte) : (s.setBufByte b i x).pending = s.pending := rfl
@[simp] theorem State.setBufByte_keylen (b : Buf) (i : Nat) (x : Byte) : (s.setBufByte b i x).keylen = s.keylen := rfl
@[simp] theorem State.setBufByte_ivlen (b : Buf) (i : Nat) (x : Byte) : (s.setBufByte b i x).ivlen = s.ivlen := rfl
@[simp] theorem State.setBufByte_dlen (b : Buf) (i : Nat) (x : Byte) : (s.setBufByte b i x).dlen = s.dlen := rfl
@[simp] theorem State.setBufByte_aadlen (b : Buf) (i : Nat) (x : Byte) : (s.setBufByte b i x).aadlen = s.aadlen := rfl
@[simp] theorem State.setBufByte_olen (b : Buf) (i : Nat) (x : Byte) : (s.setBufByte b i x).olen = s.olen := rfl
@[simp] theorem State.setBufByte_sector (b : Buf) (i : Nat) (x : Byte) : (s.setBufByte b i x).sector = s.sector := rfl
@[simp] theorem State.setBufByte_gfop (b : Buf) (i : Nat) (x : Byte) : (s.setBufByte b i x).gfop = s.gfop := rfl
@[simp] theorem State.setBufByte_gfres (b : Buf) (i : Nat) (x : Byte) : (s.setBufByte b i x).gfres = s.gfres := rfl
@[simp] theorem State.setBufByte_traceCount (b : Buf) (i : Nat) (x : Byte) : (s.setBufByte b i x).traceCount = s.traceCount := rfl
@[simp] theorem State.setBufByte_mem (b : Buf) (i : Nat) (x : Byte) : (s.setBufByte b i x).mem = s.mem.setRange (b.base + i) [x] := rfl
@[simp] theorem State.setBufByte_params (b : Buf) (i : Nat) (x : Byte) : (s.setBufByte b i x).params = s.params := rfl
@[simp] theorem State.setBufByte_schedule (b : Buf) (i : Nat) (x : Byte) : (s.setBufByte b i x).schedule = s.schedule := rfl
@[simp] theorem State.setBufByte_response (b : Buf) (i : Nat) (x : Byte) : (s.setBufByte b i x).response = s.response := rfl
@[simp] theorem State.setBufByte_resets (b : Buf) (i : Nat) (x : Byte) : (s.setBufByte b i x).resets = s.resets := rfl
@[simp] theorem State.setBufByte_draws (b : Buf) (i : Nat) (x : Byte) : (s.setBufByte b i x).draws = s.draws := rfl

/-! ### commitState -/

@[simp] theorem State.commitState_irqEn (b : Bytes) : (s.commitState b).irqEn = s.irqEn := rfl
@[simp] theorem State.commitState_done (b : Bytes) : (s.commitState b).done = s.done := rfl
@[simp] theorem State.commitState_wdrop (b : Bytes) : (s.commitState b).wdrop = s.wdrop := rfl
@[simp] theorem State.commitState_errcode (b : Bytes) : (s.commitState b).errcode = s.errcode := rfl
@[simp] theorem State.commitState_ksValid (b : Bytes) : (s.commitState b).ksValid = s.ksValid := rfl
@[simp] theorem State.commitState_ksNr (b : Bytes) : (s.commitState b).ksNr = s.ksNr := rfl
@[simp] theorem State.commitState_pending (b : Bytes) : (s.commitState b).pending = s.pending := rfl
@[simp] theorem State.commitState_keylen (b : Bytes) : (s.commitState b).keylen = s.keylen := rfl
@[simp] theorem State.commitState_ivlen (b : Bytes) : (s.commitState b).ivlen = s.ivlen := rfl
@[simp] theorem State.commitState_dlen (b : Bytes) : (s.commitState b).dlen = s.dlen := rfl
@[simp] theorem State.commitState_aadlen (b : Bytes) : (s.commitState b).aadlen = s.aadlen := rfl
@[simp] theorem State.commitState_olen (b : Bytes) : (s.commitState b).olen = s.olen := rfl
@[simp] theorem State.commitState_sector (b : Bytes) : (s.commitState b).sector = s.sector := rfl
@[simp] theorem State.commitState_gfop (b : Bytes) : (s.commitState b).gfop = s.gfop := rfl
@[simp] theorem State.commitState_gfres (b : Bytes) : (s.commitState b).gfres = s.gfres := rfl
@[simp] theorem State.commitState_traceCount (b : Bytes) : (s.commitState b).traceCount = s.traceCount := rfl
@[simp] theorem State.commitState_mem (b : Bytes) : (s.commitState b).mem = s.mem.setRange Buf.state.base b := rfl
@[simp] theorem State.commitState_params (b : Bytes) : (s.commitState b).params = s.params := rfl
@[simp] theorem State.commitState_schedule (b : Bytes) : (s.commitState b).schedule = s.schedule := rfl
@[simp] theorem State.commitState_response (b : Bytes) : (s.commitState b).response = s.response := rfl
@[simp] theorem State.commitState_resets (b : Bytes) : (s.commitState b).resets = s.resets := rfl
@[simp] theorem State.commitState_draws (b : Bytes) : (s.commitState b).draws = s.draws := rfl

/-! ### commitOut -/

@[simp] theorem State.commitOut_irqEn (out : Bytes) : (s.commitOut out).irqEn = s.irqEn := rfl
@[simp] theorem State.commitOut_done (out : Bytes) : (s.commitOut out).done = s.done := rfl
@[simp] theorem State.commitOut_wdrop (out : Bytes) : (s.commitOut out).wdrop = s.wdrop := rfl
@[simp] theorem State.commitOut_errcode (out : Bytes) : (s.commitOut out).errcode = s.errcode := rfl
@[simp] theorem State.commitOut_ksValid (out : Bytes) : (s.commitOut out).ksValid = s.ksValid := rfl
@[simp] theorem State.commitOut_ksNr (out : Bytes) : (s.commitOut out).ksNr = s.ksNr := rfl
@[simp] theorem State.commitOut_pending (out : Bytes) : (s.commitOut out).pending = s.pending := rfl
@[simp] theorem State.commitOut_keylen (out : Bytes) : (s.commitOut out).keylen = s.keylen := rfl
@[simp] theorem State.commitOut_ivlen (out : Bytes) : (s.commitOut out).ivlen = s.ivlen := rfl
@[simp] theorem State.commitOut_dlen (out : Bytes) : (s.commitOut out).dlen = s.dlen := rfl
@[simp] theorem State.commitOut_aadlen (out : Bytes) : (s.commitOut out).aadlen = s.aadlen := rfl
@[simp] theorem State.commitOut_olen (out : Bytes) : (s.commitOut out).olen = BitVec.ofNat 13 out.length := rfl
@[simp] theorem State.commitOut_sector (out : Bytes) : (s.commitOut out).sector = s.sector := rfl
@[simp] theorem State.commitOut_gfop (out : Bytes) : (s.commitOut out).gfop = s.gfop := rfl
@[simp] theorem State.commitOut_gfres (out : Bytes) : (s.commitOut out).gfres = s.gfres := rfl
@[simp] theorem State.commitOut_traceCount (out : Bytes) : (s.commitOut out).traceCount = s.traceCount := rfl
@[simp] theorem State.commitOut_mem (out : Bytes) : (s.commitOut out).mem = s.mem.setRange Buf.dout.base out := rfl
@[simp] theorem State.commitOut_params (out : Bytes) : (s.commitOut out).params = s.params := rfl
@[simp] theorem State.commitOut_schedule (out : Bytes) : (s.commitOut out).schedule = s.schedule := rfl
@[simp] theorem State.commitOut_response (out : Bytes) : (s.commitOut out).response = s.response := rfl
@[simp] theorem State.commitOut_resets (out : Bytes) : (s.commitOut out).resets = s.resets := rfl
@[simp] theorem State.commitOut_draws (out : Bytes) : (s.commitOut out).draws = s.draws := rfl

/-! ### commitSchedule -/

@[simp] theorem State.commitSchedule_irqEn (ws : List Bytes) (nr : Nat) : (s.commitSchedule ws nr).irqEn = s.irqEn := rfl
@[simp] theorem State.commitSchedule_done (ws : List Bytes) (nr : Nat) : (s.commitSchedule ws nr).done = s.done := rfl
@[simp] theorem State.commitSchedule_wdrop (ws : List Bytes) (nr : Nat) : (s.commitSchedule ws nr).wdrop = s.wdrop := rfl
@[simp] theorem State.commitSchedule_errcode (ws : List Bytes) (nr : Nat) : (s.commitSchedule ws nr).errcode = s.errcode := rfl
@[simp] theorem State.commitSchedule_ksValid (ws : List Bytes) (nr : Nat) : (s.commitSchedule ws nr).ksValid = true := rfl
@[simp] theorem State.commitSchedule_ksNr (ws : List Bytes) (nr : Nat) : (s.commitSchedule ws nr).ksNr = BitVec.ofNat 4 nr := rfl
@[simp] theorem State.commitSchedule_pending (ws : List Bytes) (nr : Nat) : (s.commitSchedule ws nr).pending = s.pending := rfl
@[simp] theorem State.commitSchedule_keylen (ws : List Bytes) (nr : Nat) : (s.commitSchedule ws nr).keylen = s.keylen := rfl
@[simp] theorem State.commitSchedule_ivlen (ws : List Bytes) (nr : Nat) : (s.commitSchedule ws nr).ivlen = s.ivlen := rfl
@[simp] theorem State.commitSchedule_dlen (ws : List Bytes) (nr : Nat) : (s.commitSchedule ws nr).dlen = s.dlen := rfl
@[simp] theorem State.commitSchedule_aadlen (ws : List Bytes) (nr : Nat) : (s.commitSchedule ws nr).aadlen = s.aadlen := rfl
@[simp] theorem State.commitSchedule_olen (ws : List Bytes) (nr : Nat) : (s.commitSchedule ws nr).olen = s.olen := rfl
@[simp] theorem State.commitSchedule_sector (ws : List Bytes) (nr : Nat) : (s.commitSchedule ws nr).sector = s.sector := rfl
@[simp] theorem State.commitSchedule_gfop (ws : List Bytes) (nr : Nat) : (s.commitSchedule ws nr).gfop = s.gfop := rfl
@[simp] theorem State.commitSchedule_gfres (ws : List Bytes) (nr : Nat) : (s.commitSchedule ws nr).gfres = s.gfres := rfl
@[simp] theorem State.commitSchedule_traceCount (ws : List Bytes) (nr : Nat) : (s.commitSchedule ws nr).traceCount = s.traceCount := rfl
@[simp] theorem State.commitSchedule_mem (ws : List Bytes) (nr : Nat) : (s.commitSchedule ws nr).mem = s.mem.setRange Buf.roundKey.base (scheduleImage ws) := rfl
@[simp] theorem State.commitSchedule_params (ws : List Bytes) (nr : Nat) : (s.commitSchedule ws nr).params = s.params := rfl
@[simp] theorem State.commitSchedule_schedule (ws : List Bytes) (nr : Nat) : (s.commitSchedule ws nr).schedule = s.schedule := rfl
@[simp] theorem State.commitSchedule_response (ws : List Bytes) (nr : Nat) : (s.commitSchedule ws nr).response = s.response := rfl
@[simp] theorem State.commitSchedule_resets (ws : List Bytes) (nr : Nat) : (s.commitSchedule ws nr).resets = s.resets := rfl
@[simp] theorem State.commitSchedule_draws (ws : List Bytes) (nr : Nat) : (s.commitSchedule ws nr).draws = s.draws := rfl

/-! ### commitTrace -/

@[simp] theorem State.commitTrace_irqEn (key : Bytes) (tr : List TraceRecord) : (s.commitTrace key tr).irqEn = s.irqEn := rfl
@[simp] theorem State.commitTrace_done (key : Bytes) (tr : List TraceRecord) : (s.commitTrace key tr).done = s.done := rfl
@[simp] theorem State.commitTrace_wdrop (key : Bytes) (tr : List TraceRecord) : (s.commitTrace key tr).wdrop = s.wdrop := rfl
@[simp] theorem State.commitTrace_errcode (key : Bytes) (tr : List TraceRecord) : (s.commitTrace key tr).errcode = s.errcode := rfl
@[simp] theorem State.commitTrace_ksValid (key : Bytes) (tr : List TraceRecord) : (s.commitTrace key tr).ksValid = true := rfl
@[simp] theorem State.commitTrace_ksNr (key : Bytes) (tr : List TraceRecord) : (s.commitTrace key tr).ksNr = BitVec.ofNat 4 (nrOf key.length) := rfl
@[simp] theorem State.commitTrace_pending (key : Bytes) (tr : List TraceRecord) : (s.commitTrace key tr).pending = s.pending := rfl
@[simp] theorem State.commitTrace_keylen (key : Bytes) (tr : List TraceRecord) : (s.commitTrace key tr).keylen = s.keylen := rfl
@[simp] theorem State.commitTrace_ivlen (key : Bytes) (tr : List TraceRecord) : (s.commitTrace key tr).ivlen = s.ivlen := rfl
@[simp] theorem State.commitTrace_dlen (key : Bytes) (tr : List TraceRecord) : (s.commitTrace key tr).dlen = s.dlen := rfl
@[simp] theorem State.commitTrace_aadlen (key : Bytes) (tr : List TraceRecord) : (s.commitTrace key tr).aadlen = s.aadlen := rfl
@[simp] theorem State.commitTrace_olen (key : Bytes) (tr : List TraceRecord) : (s.commitTrace key tr).olen = s.olen := rfl
@[simp] theorem State.commitTrace_sector (key : Bytes) (tr : List TraceRecord) : (s.commitTrace key tr).sector = s.sector := rfl
@[simp] theorem State.commitTrace_gfop (key : Bytes) (tr : List TraceRecord) : (s.commitTrace key tr).gfop = s.gfop := rfl
@[simp] theorem State.commitTrace_gfres (key : Bytes) (tr : List TraceRecord) : (s.commitTrace key tr).gfres = s.gfres := rfl
@[simp] theorem State.commitTrace_traceCount (key : Bytes) (tr : List TraceRecord) : (s.commitTrace key tr).traceCount = BitVec.ofNat 7 tr.length := rfl
@[simp] theorem State.commitTrace_mem (key : Bytes) (tr : List TraceRecord) : (s.commitTrace key tr).mem = (s.mem.setRange Buf.trace.base (traceImage tr)).setRange Buf.roundKey.base
      (scheduleImage (expand key)) := rfl
@[simp] theorem State.commitTrace_params (key : Bytes) (tr : List TraceRecord) : (s.commitTrace key tr).params = s.params := rfl
@[simp] theorem State.commitTrace_schedule (key : Bytes) (tr : List TraceRecord) : (s.commitTrace key tr).schedule = s.schedule := rfl
@[simp] theorem State.commitTrace_response (key : Bytes) (tr : List TraceRecord) : (s.commitTrace key tr).response = s.response := rfl
@[simp] theorem State.commitTrace_resets (key : Bytes) (tr : List TraceRecord) : (s.commitTrace key tr).resets = s.resets := rfl
@[simp] theorem State.commitTrace_draws (key : Bytes) (tr : List TraceRecord) : (s.commitTrace key tr).draws = s.draws := rfl

end Sys2Proof.Machine
end

