-- ==== Sys2Proof/Laws/Memory.lean ====
section
/-! SUPPORT. The buffer memory: a read after a write, the canonical form, and the reads of a whole buffer. -/

namespace Sys2Proof.Machine

/-! ### Reading back what `setRange` stored -/

theorem lookup_cellsFrom (bs : Bytes) : ∀ base a : Nat,
    (cellsFrom base bs).lookup a = if base ≤ a ∧ a < base + bs.length then bs[a - base]? else none := by
  induction bs with
  | nil => intro base a; simp [cellsFrom]
  | cons b bs ih =>
    intro base a
    rw [cellsFrom, List.lookup_cons, ih]
    by_cases h : a = base
    · subst h; simp
    · have hb : (a == base) = false := by simpa using h
      simp only [hb, List.length_cons]
      by_cases hr : base ≤ a ∧ a < base + (bs.length + 1)
      · rw [if_pos (by omega), if_pos hr, show a - base = (a - (base + 1)) + 1 by omega,
          List.getElem?_cons_succ]
      · rw [if_neg (by omega), if_neg hr]

theorem lookup_filter (p : Nat → Bool) (a : Nat) (m : Memory) :
    (m.filter fun c => p c.1).lookup a = if p a then m.lookup a else none := by
  induction m with
  | nil => simp
  | cons c m ih =>
    obtain ⟨k, v⟩ := c
    by_cases hk : a = k
    · subst hk
      cases hp : p a <;> simp [hp, ih]
    · have hb : (a == k) = false := by simpa using hk
      cases hp : p k <;> simp [hp, ih, List.lookup_cons, hb]

/-- A read after a write gives the byte written inside the range, and what was there outside it. -/
theorem get?_setRange (m : Memory) (base : Nat) (bs : Bytes) (a : Nat) :
    (m.setRange base bs).get? a =
      if base ≤ a ∧ a < base + bs.length then bs[a - base]? else m.get? a := by
  unfold Memory.get? Memory.setRange
  rw [List.lookup_append, List.lookup_append, lookup_cellsFrom,
    lookup_filter (fun k => decide (k < base)), lookup_filter (fun k => decide (base + bs.length ≤ k))]
  by_cases h1 : a < base
  · have h2 : ¬ (base + bs.length ≤ a) := by omega
    have h3 : ¬ (base ≤ a ∧ a < base + bs.length) := by omega
    simp [h1, h2, h3]
  · by_cases h2 : a < base + bs.length
    · have h3 : a - base < bs.length := by omega
      have h4 : base ≤ a ∧ a < base + bs.length := by omega
      simp [h1, h4, h3]
    · have h3 : base + bs.length ≤ a := by omega
      have h4 : ¬ (base ≤ a ∧ a < base + bs.length) := by omega
      simp [h1, h3, h4]

/-! ### The canonical form -/

theorem cellsFrom_bounds (bs : Bytes) : ∀ base : Nat, ∀ c ∈ cellsFrom base bs,
    base ≤ c.1 ∧ c.1 < base + bs.length := by
  induction bs with
  | nil => intro base c hc; simp [cellsFrom] at hc
  | cons b bs ih =>
    intro base c hc
    rw [cellsFrom, List.mem_cons] at hc
    rcases hc with rfl | hc
    · simp
    · have := ih _ c hc
      simp only [List.length_cons]
      omega

theorem cellsFrom_wf (bs : Bytes) : ∀ base : Nat, Memory.wf (cellsFrom base bs) := by
  induction bs with
  | nil => intro base; exact List.Pairwise.nil
  | cons b bs ih =>
    intro base
    refine List.Pairwise.cons (fun c hc => ?_) (ih _)
    have := cellsFrom_bounds bs _ c hc
    show base < c.1
    omega

/-- Every store keeps the canonical form. -/
theorem setRange_wf {m : Memory} (h : m.wf) (base : Nat) (bs : Bytes) : (m.setRange base bs).wf := by
  unfold Memory.setRange
  refine List.pairwise_append.2 ⟨List.pairwise_append.2
    ⟨h.filter _, cellsFrom_wf bs base, ?_⟩, h.filter _, ?_⟩
  · intro c hc d hd
    have := cellsFrom_bounds bs base d hd
    have hc := (List.mem_filter.1 hc).2
    simp only [decide_eq_true_eq] at hc
    omega
  · intro c hc d hd
    have hd := (List.mem_filter.1 hd).2
    simp only [decide_eq_true_eq] at hd
    rcases List.mem_append.1 hc with hc | hc
    · have hc := (List.mem_filter.1 hc).2
      simp only [decide_eq_true_eq] at hc
      omega
    · have := cellsFrom_bounds bs base c hc
      omega

/-- The cells of a store are the old ones outside the range and the new ones inside it. -/
theorem mem_setRange {m : Memory} {base : Nat} {bs : Bytes} {c : Host.Cell}
    (h : c ∈ m.setRange base bs) : c ∈ m ∨ (base ≤ c.1 ∧ c.1 < base + bs.length) := by
  unfold Memory.setRange at h
  rcases List.mem_append.1 h with h | h
  · rcases List.mem_append.1 h with h | h
    · exact .inl (List.mem_filter.1 h).1
    · exact .inr (cellsFrom_bounds bs base c h)
  · exact .inl (List.mem_filter.1 h).1

theorem reset_mem_wf : Memory.wf State.reset.mem := List.Pairwise.nil

/-! ### One byte of the state -/

/-- The byte at `a` of any state whose memory is `s`'s with `bs` stored at `base`. -/
theorem byteAt_of_setRange {s t : State} {base : Nat} {bs : Bytes}
    (hm : t.mem = s.mem.setRange base bs) (hr : t.resets = s.resets) (a : Nat) :
    t.byteAt a = if base ≤ a ∧ a < base + bs.length then bs.getD (a - base) 0 else s.byteAt a := by
  unfold State.byteAt
  rw [hm, hr, get?_setRange]
  by_cases h : base ≤ a ∧ a < base + bs.length
  · have h3 : a - base < bs.length := by omega
    rw [if_pos h, if_pos h]
    simp [h3, List.getD_eq_getElem?_getD]
  · rw [if_neg h, if_neg h]

theorem byteAt_of_mem_eq {s t : State} (hm : t.mem = s.mem) (hr : t.resets = s.resets) (a : Nat) :
    t.byteAt a = s.byteAt a := by
  unfold State.byteAt
  rw [hm, hr]

theorem byteAt_setBuf (s : State) (b : Buf) (bs : Bytes) (a : Nat) :
    (s.setBuf b bs).byteAt a =
      if b.base ≤ a ∧ a < b.base + bs.length then bs.getD (a - b.base) 0 else s.byteAt a :=
  byteAt_of_setRange (t := s.setBuf b bs) rfl rfl a

theorem byteAt_commitOut (s : State) (out : Bytes) (a : Nat) :
    (s.commitOut out).byteAt a =
      if Buf.dout.base ≤ a ∧ a < Buf.dout.base + out.length then out.getD (a - Buf.dout.base) 0
      else s.byteAt a :=
  byteAt_of_setRange (t := s.commitOut out) rfl rfl a

theorem byteAt_commitSchedule (s : State) (ws : List Bytes) (nr a : Nat) :
    (s.commitSchedule ws nr).byteAt a =
      if Buf.roundKey.base ≤ a ∧ a < Buf.roundKey.base + (scheduleImage ws).length then
        (scheduleImage ws).getD (a - Buf.roundKey.base) 0
      else s.byteAt a :=
  byteAt_of_setRange (t := s.commitSchedule ws nr) rfl rfl a

@[simp] theorem byteAt_completeOk (s : State) (a : Nat) : s.completeOk.byteAt a = s.byteAt a := rfl

@[simp] theorem byteAt_completeErr (s : State) (e : ErrCode) (a : Nat) :
    (s.completeErr e).byteAt a = s.byteAt a := rfl

@[simp] theorem byteAt_accept (s : State) (w : Word) (a : Nat) : (s.accept w).byteAt a = s.byteAt a := rfl

@[simp] theorem byteAt_respond (s : State) (r : Response) (a : Nat) : (s.respond r).byteAt a = s.byteAt a := rfl

@[simp] theorem byteAt_dropSchedule (s : State) (a : Nat) : s.dropSchedule.byteAt a = s.byteAt a := rfl

/-! ### Whole buffers -/

@[simp] theorem length_bufFrom (s : State) (b : Buf) (i n : Nat) : (s.bufFrom b i n).length = n := by
  simp [State.bufFrom]

@[simp] theorem length_buf (s : State) (b : Buf) (n : Nat) : (s.buf b n).length = n := length_bufFrom s b 0 n

theorem getElem_bufFrom (s : State) (b : Buf) (i n k : Nat) (h : k < (s.bufFrom b i n).length) :
    (s.bufFrom b i n)[k] = s.byteAt (b.base + i + k) := by
  simp [State.bufFrom]

theorem getD_bufFrom (s : State) (b : Buf) (i n k : Nat) (h : k < n) :
    (s.bufFrom b i n).getD k 0 = s.byteAt (b.base + i + k) := by
  simp [State.bufFrom, h]

theorem getD_buf (s : State) (b : Buf) (n k : Nat) (h : k < n) :
    (s.buf b n).getD k 0 = s.byteAt (b.base + k) := by
  simpa [State.buf] using getD_bufFrom s b 0 n k h

/-- A buffer range reads the same in two states that agree on its bytes. -/
theorem bufFrom_congr {s t : State} {b : Buf} {i n : Nat}
    (h : ∀ k, k < n → t.byteAt (b.base + i + k) = s.byteAt (b.base + i + k)) :
    t.bufFrom b i n = s.bufFrom b i n := by
  unfold State.bufFrom
  exact List.map_congr_left fun k hk => h k (List.mem_range.1 hk)

/-- What is written to the start of a buffer reads back. -/
theorem buf_setBuf (s : State) (b : Buf) (bs : Bytes) : (s.setBuf b bs).buf b bs.length = bs := by
  refine List.ext_getElem (by simp) fun k h1 h2 => ?_
  have h : ((s.setBuf b bs).buf b bs.length)[k] = (s.setBuf b bs).byteAt (b.base + 0 + k) :=
    getElem_bufFrom ..
  rw [h, byteAt_setBuf, if_pos (by omega), show b.base + 0 + k - b.base = k by omega]
  simp [h2]

end Sys2Proof.Machine
end

