-- ==== Sys2Proof/Laws/Command.lean ====
section
/-! SUPPORT. The completion of a command and the checks: what each shared operation can do, said once. -/

namespace Sys2Proof.Machine

/-! ### `require` and `finish` -/

theorem require_pos {p : Prop} [Decidable p] (h : p) (e : ErrCode) : require p e = .ok () := by
  simp [require, h]

theorem require_neg {p : Prop} [Decidable p] (h : ¬ p) (e : ErrCode) : require p e = .error e := by
  simp [require, h]

theorem require_ok_iff {p : Prop} [Decidable p] {e : ErrCode} : require p e = .ok () ↔ p := by
  by_cases h : p <;> simp [require, h]

@[simp] theorem finish_ok (s u : State) : finish s (.ok u) = .next u.completeOk := rfl

@[simp] theorem finish_error (s : State) (e : ErrCode) : finish s (.error e) = .next (s.completeErr e) := rfl

/-- The only two ways in which a completion can end (R153). -/
theorem finish_cases {s t : State} {r : Except ErrCode State} (h : finish s r = .next t) :
    (∃ u, r = .ok u ∧ t = u.completeOk) ∨ (∃ e, r = .error e ∧ t = s.completeErr e) := by
  cases r with
  | ok u => exact .inl ⟨u, rfl, by simpa using h.symm⟩
  | error e => exact .inr ⟨e, rfl, by simpa using h.symm⟩

/-- A completion always answers a next state. -/
theorem finish_isNext (s : State) (r : Except ErrCode State) : ∃ t, finish s r = .next t := ⟨_, rfl⟩

/-! ### `Except` sequencing, as the meanings use it -/

@[simp] theorem except_ok_bind {α β : Type} (a : α) (f : α → Except ErrCode β) : (Except.ok a >>= f) = f a := rfl

@[simp] theorem except_error_bind {α β : Type} (e : ErrCode) (f : α → Except ErrCode β) :
    (Except.error e >>= f) = Except.error e := rfl

theorem except_bind_ok {α β : Type} {x : Except ErrCode α} {f : α → Except ErrCode β} {b : β}
    (h : (x >>= f) = .ok b) : ∃ a, x = .ok a ∧ f a = .ok b := by
  cases x with
  | ok a => exact ⟨a, rfl, h⟩
  | error e => cases h

/-! ### The checks -/

theorem checkKey_ok {s : State} (h : aesKeyLength s.keylen.toNat) : s.checkKey = .ok () := require_pos h _

theorem checkKey_err {s : State} (h : ¬ aesKeyLength s.keylen.toNat) : s.checkKey = .error .keyLength :=
  require_neg h _

theorem checkXtsKey_ok {s : State} (h : xtsKeyLength s.keylen.toNat) : s.checkXtsKey = .ok () := require_pos h _

theorem checkXtsKey_err {s : State} (h : ¬ xtsKeyLength s.keylen.toNat) : s.checkXtsKey = .error .keyLength :=
  require_neg h _

theorem checkData_ok {s : State} (h : s.dlen.toNat ≤ 4096) : s.checkData = .ok () := require_pos h _

theorem checkData_err {s : State} (h : ¬ s.dlen.toNat ≤ 4096) : s.checkData = .error .range := require_neg h _

theorem checkDataAad_ok {s : State} (h : s.dlen.toNat ≤ 4096) (h' : s.aadlen.toNat ≤ 256) :
    s.checkDataAad = .ok () := require_pos ⟨h, h'⟩ _

theorem checkDataAad_err {s : State} (h : ¬ (s.dlen.toNat ≤ 4096 ∧ s.aadlen.toNat ≤ 256)) :
    s.checkDataAad = .error .range := require_neg h _

theorem checkIv_ok {s : State} (h : s.ivlen.toNat = 16) : s.checkIv = .ok () := require_pos h _

theorem checkIv_err {s : State} (h : s.ivlen.toNat ≠ 16) : s.checkIv = .error .ivLength := require_neg h _

theorem checkNonce_ok {s : State} (h : s.ivlen.toNat = 12) : s.checkNonce = .ok () := require_pos h _

theorem checkNonce_err {s : State} (h : s.ivlen.toNat ≠ 12) : s.checkNonce = .error .nonceLength :=
  require_neg h _

theorem checkOneBlock_ok {s : State} (h : s.dlen.toNat = 16) : s.checkOneBlock = .ok () := require_pos h _

theorem checkOneBlock_err {s : State} (h : s.dlen.toNat ≠ 16) : s.checkOneBlock = .error .blockLength :=
  require_neg h _

theorem checkBlocks_ok {s : State} (h : s.dlen.toNat % 16 = 0) : s.checkBlocks = .ok () := require_pos h _

theorem checkBlocks_err {s : State} (h : s.dlen.toNat % 16 ≠ 0) : s.checkBlocks = .error .blockLength :=
  require_neg h _

theorem checkBlockCommand_ok {s : State} (hk : aesKeyLength s.keylen.toNat) (hd : s.dlen.toNat = 16) :
    s.checkBlockCommand = .ok () := by
  rw [State.checkBlockCommand, checkKey_ok hk, except_ok_bind, checkData_ok (by omega), except_ok_bind,
    checkOneBlock_ok hd]

theorem checkGcm_ok {s : State} (hk : aesKeyLength s.keylen.toNat) (hd : s.dlen.toNat ≤ 4096)
    (ha : s.aadlen.toNat ≤ 256) (hn : s.ivlen.toNat = 12) : s.checkGcm = .ok () := by
  rw [State.checkGcm, checkKey_ok hk, except_ok_bind, checkDataAad_ok hd ha, except_ok_bind, checkNonce_ok hn]

end Sys2Proof.Machine
end

