-- ==== Sys2Proof/Laws/Step.lean ====
section
/-! SUPPORT. What one step can be: the Engine's turn or the next event of the schedule. -/

namespace Sys2Proof.Machine

/-- The two ways in which a step can come about. -/
theorem step_cases {s t : State} (h : step s = .next t) :
    (s.schedule = [] ∧ engineTurn s = .next t) ∨
      ∃ e rest, s.schedule = e :: rest ∧ eventStep e { s with schedule := rest } = .next t := by
  unfold step at h
  cases hs : s.schedule with
  | nil => rw [hs] at h; exact .inl ⟨rfl, h⟩
  | cons e rest => rw [hs] at h; exact .inr ⟨e, rest, rfl, h⟩

theorem step_nil {s : State} (h : s.schedule = []) : step s = engineTurn s := by
  unfold step; rw [h]

theorem step_cons {s : State} {e : Event} {rest : List Event} (h : s.schedule = e :: rest) :
    step s = eventStep e { s with schedule := rest } := by
  unfold step; rw [h]

@[simp] theorem engineTurn_idle {s : State} (h : s.pending = none) : engineTurn s = .next s := by
  unfold engineTurn; rw [h]

theorem engineTurn_pending {s : State} {w : Word} (h : s.pending = some w) : engineTurn s = completeWord w s := by
  unfold engineTurn; rw [h]

theorem completeWord_ok {w : Word} {i : Instr} (h : decode w = .ok i) (s : State) :
    completeWord w s = exec i s := by
  unfold completeWord; rw [h]

theorem completeWord_error {w : Word} {e : DecodeError} (h : decode w = .error e) (s : State) :
    completeWord w s = .next (s.completeErr .illegalCmd) := by
  unfold completeWord; rw [h]; cases e; rfl

@[simp] theorem eventStep_hostRead (o : BitVec 15) (z : AccessSize) (s : State) :
    eventStep (.hostRead o z) s = .next (s.hostRead o z) := rfl

@[simp] theorem eventStep_hostWrite (o : BitVec 15) (z : AccessSize) (v : Word) (s : State) :
    eventStep (.hostWrite o z v) s = .next (s.hostWrite o z v) := rfl

@[simp] theorem eventStep_engine (s : State) : eventStep .engine s = engineTurn s := rfl

@[simp] theorem eventStep_reset (s : State) : eventStep .reset s = .next s.resetNow := rfl

/-- Every meaning ends in the shared completion. -/
theorem exec_eq_finish (i : Instr) (s : State) : ∃ r, exec i s = finish s r := by
  cases i <;> first | exact ⟨_, rfl⟩ | exact ⟨.ok _, rfl⟩ | exact ⟨.error _, rfl⟩

/-- What a command can answer: a state with its writes and the report of success, or the state before with the report of an
error. -/
theorem exec_cases {i : Instr} {s t : State} (h : exec i s = .next t) :
    (∃ u : State, t = u.completeOk) ∨ ∃ e, t = s.completeErr e := by
  obtain ⟨r, hr⟩ := exec_eq_finish i s
  rw [hr] at h
  rcases finish_cases h with ⟨u, -, rfl⟩ | ⟨e, -, rfl⟩
  · exact .inl ⟨u, rfl⟩
  · exact .inr ⟨e, rfl⟩

/-- A step of the word that `withFetchWord` submits is that command's completion. -/
theorem step_withFetchWord (s : State) (nbits w : Nat) :
    step (s.withFetchWord nbits w) =
      completeWord (BitVec.ofNat 32 (w % 2 ^ nbits)) (s.accept (BitVec.ofNat 32 (w % 2 ^ nbits))) := rfl

end Sys2Proof.Machine
end

