-- ==== Sys2Proof/Laws/Bus.lean ====
section
/-! SUPPORT. Host accesses: what a read and a write can do to the state. -/

namespace Sys2Proof.Machine

/-- A read changes nothing but the answer and the number of draws (R86). -/
theorem hostRead_eq (s : State) (o : BitVec 15) (z : AccessSize) :
    ∃ r d, s.hostRead o z = { s with response := some r, draws := d } := by
  unfold State.hostRead
  split
  · exact ⟨.busError, s.draws, rfl⟩
  · exact ⟨_, _, rfl⟩

/-- A write while busy, outside CTRL and STATUS, sets WDROP and nothing else (R88). -/
theorem alignedWrite_busy {s : State} {o : Nat} (z : AccessSize) (v : Word) (hb : s.busy = true)
    (ho : writableWhileBusy o = false) : s.alignedWrite o z v = { s with wdrop := true } := by
  simp [State.alignedWrite, hb, ho]

/-- A 32-bit write to CMD while idle is an acceptance (R87, R151). -/
theorem alignedWrite_cmd {s : State} (v : Word) (hb : s.busy = false) :
    s.alignedWrite 0x000C .word v = s.accept v := by
  simp [State.alignedWrite, hb]

/-- The effect of one written byte: a flag cleared, a register field changed, or one buffer byte stored. -/
theorem writePlace_keeps (s : State) (p : Place) (b : Byte) :
    (s.writePlace p b).pending = s.pending ∧ (s.writePlace p b).errcode = s.errcode ∧
      (s.writePlace p b).olen = s.olen ∧ (s.writePlace p b).gfres = s.gfres ∧
      (s.writePlace p b).traceCount = s.traceCount ∧ (s.writePlace p b).params = s.params ∧
      (s.writePlace p b).schedule = s.schedule ∧ (s.writePlace p b).resets = s.resets ∧
      (s.writePlace p b).draws = s.draws ∧ (s.writePlace p b).response = s.response := by
  unfold State.writePlace State.writeStatusByte State.setReg
  split
  · split
    · split <;> split <;> simp
    · simp
  · simp
  · split <;> simp
  · simp
  · split <;> simp
  · simp

/-- The same of all the bytes of one access. -/
theorem writeBytes_keeps : ∀ (bs : Bytes) (s : State) (o : Nat),
    (s.writeBytes o bs).pending = s.pending ∧ (s.writeBytes o bs).errcode = s.errcode ∧
      (s.writeBytes o bs).olen = s.olen ∧ (s.writeBytes o bs).gfres = s.gfres ∧
      (s.writeBytes o bs).traceCount = s.traceCount ∧ (s.writeBytes o bs).params = s.params ∧
      (s.writeBytes o bs).schedule = s.schedule ∧ (s.writeBytes o bs).resets = s.resets ∧
      (s.writeBytes o bs).draws = s.draws ∧ (s.writeBytes o bs).response = s.response
  | [], _, _ => by simp [State.writeBytes]
  | b :: bs, s, o => by
    have h1 := writePlace_keeps s (locate o) b
    have h2 := writeBytes_keeps bs (s.writePlace (locate o) b) (o + 1)
    simp only [State.writeBytes, h2, h1, and_self]

end Sys2Proof.Machine
end

