-- ==== Sys2Proof/Laws/Cipher.lean ====
section
/-! SUPPORT. Lengths of what the transforms, the key schedule and the cipher produce, and the shape of `blocks`. -/

namespace Sys2Proof.Machine

/-! ### Byte sequences -/

@[simp] theorem length_xorBytes (a b : Bytes) : (xorBytes a b).length = min a.length b.length := by
  simp [xorBytes]

@[simp] theorem length_be32 (v : Word) : (be32 v).length = 4 := rfl

@[simp] theorem length_blocks (s : Bytes) : (blocks s).length = (s.length + 15) / 16 := by simp [blocks]

theorem getElem_blocks (s : Bytes) (j : Nat) (h : j < (blocks s).length) :
    (blocks s)[j] = (s.drop (16 * j)).take 16 := by simp [blocks]

@[simp] theorem blocks_nil : blocks [] = [] := rfl

/-- The first block of a non-empty sequence, and the blocks of the rest. -/
theorem blocks_cons (s : Bytes) (h : s ≠ []) : blocks s = s.take 16 :: blocks (s.drop 16) := by
  have hl : 0 < s.length := List.length_pos_iff.2 h
  refine List.ext_getElem ?_ fun j h1 h2 => ?_
  · simp only [length_blocks, List.length_cons, List.length_drop]; omega
  · cases j with
    | zero => simp [getElem_blocks]
    | succ j =>
      rw [getElem_blocks, List.getElem_cons_succ, getElem_blocks, List.drop_drop,
        show 16 * (j + 1) = 16 + 16 * j by omega]

/-! ### The transforms -/

@[simp] theorem length_subBytes (b : Bytes) : (subBytes b).length = b.length := by simp [subBytes]

@[simp] theorem length_invSubBytes (b : Bytes) : (invSubBytes b).length = b.length := by simp [invSubBytes]

@[simp] theorem length_permute (f : Nat → Nat) (b : Bytes) : (permute f b).length = 16 := by simp [permute]

@[simp] theorem length_shiftRows (b : Bytes) : (shiftRows b).length = 16 := length_permute _ b

@[simp] theorem length_invShiftRows (b : Bytes) : (invShiftRows b).length = 16 := length_permute _ b

theorem length_circulant (m0 m1 m2 m3 : Byte) : ∀ b : Bytes, (circulant m0 m1 m2 m3 b).length = b.length / 4 * 4
  | [] | [_] | [_, _] | [_, _, _] => by simp [circulant]
  | _ :: _ :: _ :: _ :: rest => by
    simp only [circulant, List.length_cons, length_circulant m0 m1 m2 m3 rest]
    omega

theorem length_mixColumns {b : Bytes} (h : b.length = 16) : (mixColumns b).length = 16 := by
  rw [mixColumns, length_circulant, h]

theorem length_invMixColumns {b : Bytes} (h : b.length = 16) : (invMixColumns b).length = 16 := by
  rw [invMixColumns, length_circulant, h]

/-! ### The key schedule -/

@[simp] theorem length_subWord (t : Bytes) : (subWord t).length = t.length := by simp [subWord]

@[simp] theorem length_rotWord (t : Bytes) : (rotWord t).length = t.length := by cases t <;> simp [rotWord]

@[simp] theorem length_xorFirst (c : Byte) (t : Bytes) : (xorFirst c t).length = t.length := by
  cases t <;> simp [xorFirst]

theorem length_nextWord {nk : Nat} {ws : List Bytes} (hnk : 0 < nk) (hlen : nk ≤ ws.length)
    (hw : ∀ w ∈ ws, w.length = 4) : (nextWord nk ws).length = 4 := by
  have key : ∀ i, i < ws.length → (ws.getD i []).length = 4 := fun i hi => by
    rw [List.getD_eq_getElem?_getD, List.getElem?_eq_getElem hi]
    exact hw _ (List.getElem_mem hi)
  have h1 := key (ws.length - 1) (by omega)
  have h2 := key (ws.length - nk) (by omega)
  simp only [nextWord, length_xorBytes, h2]
  split
  · rw [length_xorFirst, length_subWord, length_rotWord, h1]; rfl
  · split
    · rw [length_subWord, h1]; rfl
    · rw [h1]; rfl

theorem expandLoop_spec {nk : Nat} (hnk : 0 < nk) : ∀ (n : Nat) (ws : List Bytes), nk ≤ ws.length →
    (∀ w ∈ ws, w.length = 4) →
    (expandLoop nk n ws).length = ws.length + n ∧ (∀ w ∈ expandLoop nk n ws, w.length = 4) ∧
      ∀ i, i < ws.length → (expandLoop nk n ws)[i]? = ws[i]?
  | 0, ws, _, hw => ⟨by simp [expandLoop], hw, fun _ _ => rfl⟩
  | n + 1, ws, hlen, hw => by
    have hw' : ∀ w ∈ ws ++ [nextWord nk ws], w.length = 4 := by
      intro w h
      rcases List.mem_append.1 h with h | h
      · exact hw w h
      · rw [List.mem_singleton.1 h]; exact length_nextWord hnk hlen hw
    obtain ⟨h1, h2, h3⟩ := expandLoop_spec hnk n (ws ++ [nextWord nk ws]) (by simp; omega) hw'
    refine ⟨by rw [expandLoop, h1]; simp; omega, h2, fun i hi => ?_⟩
    rw [expandLoop, h3 i (by simp; omega), List.getElem?_append_left hi]

theorem keyWords_spec {key : Bytes} (h : aesKeyLength key.length) :
    (keyWords key).length = nkOf key.length ∧ ∀ w ∈ keyWords key, w.length = 4 := by
  refine ⟨by simp [keyWords], fun w hw => ?_⟩
  obtain ⟨i, hi, rfl⟩ := List.mem_map.1 hw
  have hi := List.mem_range.1 hi
  rw [List.length_take, List.length_drop]
  unfold nkOf at hi
  rcases h with h | h | h <;> rw [h] at hi ⊢ <;> omega

/-- Every word of a schedule has four bytes. -/
theorem expand_word_length {key : Bytes} (h : aesKeyLength key.length) : ∀ w ∈ expand key, w.length = 4 := by
  obtain ⟨h1, h2⟩ := keyWords_spec h
  have hnk : 0 < nkOf key.length := by unfold nkOf; rcases h with h | h | h <;> omega
  exact (expandLoop_spec hnk _ _ (by omega) h2).2.1

theorem flatten_length_of_words {ws : List Bytes} (h : ∀ w ∈ ws, w.length = 4) :
    ws.flatten.length = 4 * ws.length := by
  induction ws with
  | nil => rfl
  | cons w ws ih =>
    rw [List.flatten_cons, List.length_append, ih fun x hx => h x (List.mem_cons_of_mem _ hx),
      h w (List.mem_cons_self ..), List.length_cons]
    omega

theorem expand_length {key : Bytes} (h : aesKeyLength key.length) :
    (expand key).length = 4 * (nrOf key.length + 1) := by
  obtain ⟨h1, h2⟩ := keyWords_spec h
  have hnk : 0 < nkOf key.length := by unfold nkOf; rcases h with h | h | h <;> omega
  have h3 := (expandLoop_spec hnk (4 * (nrOf key.length + 1) - nkOf key.length) _ (le_of_eq h1.symm) h2).1
  rw [expand, h3, h1]
  unfold nrOf
  omega

/-- A round key has 16 bytes (R203). -/
theorem length_roundKey {key : Bytes} (h : aesKeyLength key.length) {r : Nat} (hr : r ≤ nrOf key.length) :
    (roundKey (expand key) r).length = 16 := by
  rw [roundKey, flatten_length_of_words fun w hw =>
    expand_word_length h w (List.mem_of_mem_drop (List.mem_of_mem_take hw))]
  rw [List.length_take, List.length_drop, expand_length h]
  omega

/-- A schedule's image fills ROUNDKEY exactly. -/
theorem length_scheduleImage {key : Bytes} (h : aesKeyLength key.length) :
    (scheduleImage (expand key)).length = 240 := by
  have h1 := flatten_length_of_words (expand_word_length h)
  rw [expand_length h] at h1
  rw [scheduleImage, List.length_append, List.length_replicate, h1]
  unfold nrOf nkOf
  rcases h with h | h | h <;> rw [h]

/-! ### The cipher -/

theorem length_apply {key : Bytes} (hk : aesKeyLength key.length) {st : CipherStep} (hr : st.round ≤ nrOf key.length)
    {b : Bytes} (hb : b.length = 16) : (st.apply (expand key) b).length = 16 := by
  unfold CipherStep.apply
  cases st.op <;>
    simp [hb, addRoundKey, length_roundKey hk hr, length_mixColumns hb, length_invMixColumns hb]

theorem length_runSteps {key : Bytes} (hk : aesKeyLength key.length) : ∀ (sts : List CipherStep) (b : Bytes),
    (∀ st ∈ sts, st.round ≤ nrOf key.length) → b.length = 16 → (runSteps (expand key) sts b).length = 16
  | [], _, _, hb => hb
  | st :: sts, b, h, hb =>
    length_runSteps hk sts _ (fun x hx => h x (List.mem_cons_of_mem _ hx))
      (length_apply hk (h st (List.mem_cons_self ..)) hb)

theorem encSteps_round_le (nr : Nat) : ∀ st ∈ encSteps nr, st.round ≤ nr := by
  intro st h
  simp only [encSteps, encRound, List.mem_append, List.mem_flatMap, List.mem_range'_1, List.mem_cons,
    List.not_mem_nil, or_false] at h
  rcases h with (rfl | ⟨r, hr, rfl | rfl | rfl | rfl⟩) | rfl | rfl | rfl <;> simp <;> omega

theorem decSteps_round_le (nr : Nat) : ∀ st ∈ decSteps nr, st.round ≤ nr := by
  intro st h
  simp only [decSteps, decRound, List.mem_append, List.mem_flatMap, List.mem_reverse, List.mem_range'_1,
    List.mem_cons, List.not_mem_nil, or_false] at h
  rcases h with (rfl | ⟨r, hr, rfl | rfl | rfl | rfl⟩) | rfl | rfl | rfl <;> simp <;> omega

/-- E maps 16 bytes to 16 bytes. -/
theorem length_encryptBlock {key b : Bytes} (hk : aesKeyLength key.length) (hb : b.length = 16) :
    (encryptBlock key b).length = 16 := length_runSteps hk _ b (encSteps_round_le _) hb

/-- D maps 16 bytes to 16 bytes. -/
theorem length_decryptBlock {key b : Bytes} (hk : aesKeyLength key.length) (hb : b.length = 16) :
    (decryptBlock key b).length = 16 := length_runSteps hk _ b (decSteps_round_le _) hb

/-- A trace has one record for each step. -/
theorem length_traceSteps (ws : List Bytes) : ∀ (sts : List CipherStep) (b : Bytes),
    (traceSteps ws sts b).length = sts.length
  | [], _ => rfl
  | _ :: sts, _b => by rw [traceSteps, List.length_cons, length_traceSteps ws sts, List.length_cons]

/-! ### Padding -/

theorem padCount_bounds (n : Nat) : 1 ≤ padCount n ∧ padCount n ≤ 16 := by unfold padCount; omega

@[simp] theorem length_padBytes (d : Bytes) : (padBytes d).length = d.length + padCount d.length := by
  simp [padBytes]

theorem length_padBytes_mod (d : Bytes) : (padBytes d).length % 16 = 0 := by
  rw [length_padBytes]; unfold padCount; omega

end Sys2Proof.Machine
end

