-- ==== Sys2Proof/Laws/Invariant.lean ====
section
/-! SUPPORT. What KS_VALID = 1 promises of ROUNDKEY: which updates keep it, which establish it, which make it empty. -/

namespace Sys2Proof.Machine

/-- The promise speaks of KS_VALID, KS_NR, KEYLEN and the bytes of KEY and ROUNDKEY alone. -/
theorem roundKeyMatchesKey_congr {s t : State} (hv : t.ksValid = s.ksValid) (hn : t.ksNr = s.ksNr)
    (hl : t.keylen = s.keylen) (hk : ∀ k, k < Buf.key.size → t.byteAt (Buf.key.base + k) = s.byteAt (Buf.key.base + k))
    (hr : ∀ k, k < Buf.roundKey.size → t.byteAt (Buf.roundKey.base + k) = s.byteAt (Buf.roundKey.base + k))
    (h : s.roundKeyMatchesKey) : t.roundKeyMatchesKey := by
  intro ht
  obtain ⟨h1, h2, h3, h4⟩ := h (hv ▸ ht)
  have hnr : nrOf s.keylen.toNat ≤ 14 := by unfold nrOf nkOf; omega
  have hkey : t.keyBytes = s.keyBytes := by
    unfold State.keyBytes State.buf
    rw [hl]
    exact bufFrom_congr fun k hk' => by simpa using hk k (by simp only [Buf.size]; omega)
  have hrk : t.buf .roundKey (16 * (s.ksNr.toNat + 1)) = s.buf .roundKey (16 * (s.ksNr.toNat + 1)) :=
    bufFrom_congr fun k hk' => by simpa using hr k (by simp only [Buf.size]; omega)
  rw [hl, hn, hkey, hrk]
  exact ⟨h1, h2, h3, fun j hj hj' => (hr j hj).trans (h4 j hj hj')⟩

/-- No schedule is promised after KS_VALID has become 0. -/
theorem roundKeyMatchesKey_of_invalid {s : State} (h : s.ksValid = false) : s.roundKeyMatchesKey :=
  fun hv => absurd hv (by simp [h])

/-- The schedule commit of the three commands of R50 establishes the promise. -/
theorem roundKeyMatchesKey_commitSchedule {s : State} (h : aesKeyLength s.keylen.toNat) :
    (s.commitSchedule (expand s.keyBytes) (nrOf s.keylen.toNat)).roundKeyMatchesKey := by
  have hlen : s.keyBytes.length = s.keylen.toNat := length_buf ..
  have hk : aesKeyLength s.keyBytes.length := hlen ▸ h
  have hnr : nrOf s.keylen.toNat ≤ 14 := by unfold nrOf nkOf; omega
  have hf : (expand s.keyBytes).flatten.length = 16 * (nrOf s.keylen.toNat + 1) := by
    rw [flatten_length_of_words (expand_word_length hk), expand_length hk, hlen]
    unfold nrOf; omega
  have hs := length_scheduleImage hk
  have hksNr : (BitVec.ofNat 4 (nrOf s.keylen.toNat)).toNat = nrOf s.keylen.toNat := by
    simp only [BitVec.toNat_ofNat]; omega
  have hkey : (s.commitSchedule (expand s.keyBytes) (nrOf s.keylen.toNat)).keyBytes = s.keyBytes :=
    bufFrom_congr fun k hk' => by
      rw [byteAt_commitSchedule, if_neg]
      have hk'' : k < s.keylen.toNat := hk'
      simp only [Buf.base]
      omega
  have hb : ∀ j, j < 240 → (s.commitSchedule (expand s.keyBytes) (nrOf s.keylen.toNat)).byteAt (Buf.roundKey.base + j) =
      (scheduleImage (expand s.keyBytes)).getD j 0 := fun j hj => by
    rw [byteAt_commitSchedule, if_pos (by omega), Nat.add_sub_cancel_left]
  intro _
  show aesKeyLength s.keylen.toNat ∧ (BitVec.ofNat 4 (nrOf s.keylen.toNat)).toNat = nrOf s.keylen.toNat ∧
    State.buf _ .roundKey (16 * ((BitVec.ofNat 4 (nrOf s.keylen.toNat)).toNat + 1)) = _ ∧
    ∀ j, j < Buf.roundKey.size → 16 * ((BitVec.ofNat 4 (nrOf s.keylen.toNat)).toNat + 1) ≤ j → _
  rw [hkey, hksNr]
  refine ⟨h, rfl, ?_, fun j hj hj' => ?_⟩
  · refine List.ext_getElem (by rw [length_buf, hf]) fun k h1 h2 => ?_
    have hk240 : k < 240 := by rw [hf] at h2; omega
    have h3 := getElem_bufFrom (s.commitSchedule (expand s.keyBytes) (nrOf s.keylen.toNat)) .roundKey 0
      (16 * (nrOf s.keylen.toNat + 1)) k h1
    refine h3.trans ?_
    rw [Nat.add_zero, hb k hk240, scheduleImage, List.getD_append _ _ _ _ h2, List.getD_eq_getElem _ _ h2]
  · rw [hb j hj, scheduleImage, List.getD_append_right _ _ _ _ (by omega)]
    simp

end Sys2Proof.Machine
end

