-- ==== Sys2Proof/Laws/PerInstr.lean ====
section
/-! SUPPORT. Statements for all instructions, one lemma per constructor. Family ReservedBits: the command word of every
well-formed instruction has its reserved bits [15:14] and [31:20] at 0 (30_encoding.md R111). -/

namespace Sys2Proof.Laws.ReservedBits

def Statement (i : Instr) : Prop :=
  i.wellFormed = true → (encode i).extractLsb' 14 2 = 0 ∧ (encode i).extractLsb' 20 12 = 0

theorem keyExpand : Statement (.keyExpand) := fun _ => by decide
theorem blockEnc : Statement (.blockEnc) := fun _ => by decide
theorem blockDec : Statement (.blockDec) := fun _ => by decide
theorem blockEncT : Statement (.blockEncT) := fun _ => by decide
theorem blockDecT : Statement (.blockDecT) := fun _ => by decide
theorem ecbEnc : Statement (.ecbEnc) := fun _ => by decide
theorem cbcEnc : Statement (.cbcEnc) := fun _ => by decide
theorem ctrEnc : Statement (.ctrEnc) := fun _ => by decide
theorem cfbEnc : Statement (.cfbEnc) := fun _ => by decide
theorem ofbEnc : Statement (.ofbEnc) := fun _ => by decide
theorem xtsEnc : Statement (.xtsEnc) := fun _ => by decide
theorem gcmEnc : Statement (.gcmEnc) := fun _ => by decide
theorem ecbDec : Statement (.ecbDec) := fun _ => by decide
theorem cbcDec : Statement (.cbcDec) := fun _ => by decide
theorem ctrDec : Statement (.ctrDec) := fun _ => by decide
theorem cfbDec : Statement (.cfbDec) := fun _ => by decide
theorem ofbDec : Statement (.ofbDec) := fun _ => by decide
theorem xtsDec : Statement (.xtsDec) := fun _ => by decide
theorem gcmDec : Statement (.gcmDec) := fun _ => by decide
theorem gcmDecNv : Statement (.gcmDecNv) := fun _ => by decide
theorem pad : Statement (.pad) := fun _ => by decide
theorem unpad : Statement (.unpad) := fun _ => by decide
theorem gfMul : Statement (.gfMul) := fun _ => by decide
theorem clear : Statement (.clear) := fun _ => by decide
theorem subBytes : Statement (.subBytes) := fun _ => by decide
theorem invSubBytes : Statement (.invSubBytes) := fun _ => by decide
theorem shiftRows : Statement (.shiftRows) := fun _ => by decide
theorem invShiftRows : Statement (.invShiftRows) := fun _ => by decide
theorem mixColumns : Statement (.mixColumns) := fun _ => by decide
theorem invMixColumns : Statement (.invMixColumns) := fun _ => by decide
theorem addRoundKey (r : Nat) : Statement (.addRoundKey r) := by
  intro _
  have h : ∀ k : Fin 16, ((0x00000016 : Word) ||| (BitVec.ofNat 32 k.val <<< 16)).extractLsb' 14 2 = 0 ∧
      ((0x00000016 : Word) ||| (BitVec.ofNat 32 k.val <<< 16)).extractLsb' 20 12 = 0 := by decide
  exact h ⟨r % 16, Nat.mod_lt _ (by decide)⟩
theorem modeEncUnsupported7 : Statement (.modeEncUnsupported7) := fun _ => by decide
theorem modeEncUnsupported8to15 (mode : Nat) : Statement (.modeEncUnsupported8to15 mode) := by
  intro _
  have h : ∀ k : Fin 16, ((0x00000004 : Word) ||| (BitVec.ofNat 32 k.val <<< 8)).extractLsb' 14 2 = 0 ∧
      ((0x00000004 : Word) ||| (BitVec.ofNat 32 k.val <<< 8)).extractLsb' 20 12 = 0 := by decide
  exact h ⟨mode % 16, Nat.mod_lt _ (by decide)⟩
theorem modeDecUnsupported7 (nv : Bool) : Statement (.modeDecUnsupported7 nv) := by cases nv <;> exact fun _ => by decide
theorem modeDecUnsupported8to15 (mode : Nat) (nv : Bool) : Statement (.modeDecUnsupported8to15 mode nv) := by
  intro _
  have h : ∀ (k : Fin 16) (b : Bool),
      ((0x00000005 : Word) ||| (BitVec.ofNat 32 k.val <<< 8) ||| (BitVec.ofNat 32 b.toNat <<< 13)).extractLsb' 14 2 = 0 ∧
      ((0x00000005 : Word) ||| (BitVec.ofNat 32 k.val <<< 8) ||| (BitVec.ofNat 32 b.toNat <<< 13)).extractLsb' 20 12 = 0 := by
    decide
  exact h ⟨mode % 16, Nat.mod_lt _ (by decide)⟩ nv

end Sys2Proof.Laws.ReservedBits
end

