-- ==== Sys2Proof/Tests/Slice0.lean ====
section
/-! SUPPORT. The model's own tests: ill-formed terms, decoding of written-out words, results against the vectors of
95_test_vectors.md, and witnesses for the hypotheses of the statements. -/

namespace Sys2Proof.Tests

set_option Elab.async false

open Sys2Proof Sys2Proof.Machine Sys2Proof.Claims

/-! ### Helpers -/

/-- The `len` bytes of the hexadecimal number `n`, its first digits first. -/
def hexBytes (len n : Nat) : Bytes := (List.range len).map fun i => BitVec.ofNat 8 (n / 256 ^ (len - 1 - i))

/-- IV and N of 95_test_vectors.md, and P18 = P16 followed by 01 02. -/
def iv16 : Bytes := hexBytes 16 0xa0a1a2a3a4a5a6a7a8a9aaabacadaeaf
def nonce12 : Bytes := hexBytes 12 0xb0b1b2b3b4b5b6b7b8b9babb
def p18 : Bytes := testBlock ++ [0x01, 0x02]

/-- The state after reset with KEYLEN, IVLEN, DLEN and the start of KEY, IV and DIN as given. -/
def testState (keylen ivlen dlen : Nat) (key iv din : Bytes) : State :=
  (({ State.reset with
      keylen := BitVec.ofNat 7 keylen, ivlen := BitVec.ofNat 5 ivlen, dlen := BitVec.ofNat 13 dlen }.setBuf .key
    key).setBuf .iv iv).setBuf .din din

/-- K128 and `din`, IVLEN = ivlen with `iv`. -/
def k128 (iv din : Bytes) : State := testState 16 iv.length din.length (testKey 16) iv din

/-- KEY = K256 as the XTS double key, SECTOR = 1, and `din`. -/
def xts (p : Params) (din : Bytes) : State :=
  { testState 32 0 din.length (testKey 32) [] din with sector := 1, params := p }

/-- K128 and STATE = `b`. -/
def stateIs (b : Bytes) : State := (k128 [] []).setBuf .state b

/-- `pending`, and one event to come. -/
def busState (pending : Option Word) (e : Event) : State := { State.reset with pending := pending, schedule := [e] }

/-- Word `w` is pending and the Engine has the turn. -/
def pendingState (w : Word) : State := { State.reset with pending := some w }

/-- What `f` reads in the next state of a command that ends with success. -/
def onSuccess (r : Host.Outcome State Fault Refusal) (f : State → Bytes) : Option Bytes :=
  match r with
  | .next t => if t.errcode = none then some (f t) else none
  | .fault _ => none
  | .refused _ => none

/-- DOUT[0..OLEN−1] after a success. -/
def outOf (r : Host.Outcome State Fault Refusal) : Option Bytes := onSuccess r fun t => t.buf .dout t.olen.toNat

/-- STATE[0..15] after a success. -/
def stateOf (r : Host.Outcome State Fault Refusal) : Option Bytes := onSuccess r State.stateBytes

/-- The error code after a next state, 0 for success. -/
def codeOf (r : Host.Outcome State Fault Refusal) : Option Nat :=
  match r with
  | .next t => some t.errcodeValue
  | .fault _ => none
  | .refused _ => none

/-- The answer to one access in `s`. -/
def answer (s : State) (e : Event) : Option Response :=
  match eventStep e s with
  | .next t => t.response
  | .fault _ => none
  | .refused _ => none

/-! ### Ill-formed terms -/

theorem test_wellFormed_refuses :
    (Instr.addRoundKey 16).wellFormed = false ∧ (Instr.modeEncUnsupported8to15 7).wellFormed = false ∧
    (Instr.modeEncUnsupported8to15 16).wellFormed = false ∧ (Instr.modeDecUnsupported8to15 7 true).wellFormed = false ∧
    (Instr.modeDecUnsupported8to15 16 false).wellFormed = false := by decide

/-! ### Decoding of words written out from the bits of R111, R118 and R119 -/

/-- A command word from its fields: ROUND [19:16], NOVERIFY [13], TRACE [12], MODE [11:8], OP [7:0] (R111). -/
def wordOf (round : BitVec 4) (nv trace : BitVec 1) (mode : BitVec 4) (op : BitVec 8) : Word :=
  0#12 ++ round ++ 0#2 ++ nv ++ trace ++ mode ++ op

theorem test_decode_key_and_block :
    decode (wordOf 0 0 0 0 0x01) = .ok .keyExpand ∧ decode (wordOf 0 0 0 0 0x02) = .ok .blockEnc ∧
    decode (wordOf 0 0 0 0 0x03) = .ok .blockDec ∧ decode (wordOf 0 0 1 0 0x02) = .ok .blockEncT ∧
    decode (wordOf 0 0 1 0 0x03) = .ok .blockDecT := by decide

theorem test_decode_mode_enc :
    decode (wordOf 0 0 0 0 0x04) = .ok .ecbEnc ∧ decode (wordOf 0 0 0 1 0x04) = .ok .cbcEnc ∧
    decode (wordOf 0 0 0 2 0x04) = .ok .ctrEnc ∧ decode (wordOf 0 0 0 3 0x04) = .ok .cfbEnc ∧
    decode (wordOf 0 0 0 4 0x04) = .ok .ofbEnc ∧ decode (wordOf 0 0 0 5 0x04) = .ok .xtsEnc ∧
    decode (wordOf 0 0 0 6 0x04) = .ok .gcmEnc ∧ decode (wordOf 0 0 0 7 0x04) = .ok .modeEncUnsupported7 ∧
    decode (wordOf 0 0 0 8 0x04) = .ok (.modeEncUnsupported8to15 8) ∧
    decode (wordOf 0 0 0 15 0x04) = .ok (.modeEncUnsupported8to15 15) := by decide

theorem test_decode_mode_dec :
    decode (wordOf 0 0 0 0 0x05) = .ok .ecbDec ∧ decode (wordOf 0 0 0 1 0x05) = .ok .cbcDec ∧
    decode (wordOf 0 0 0 2 0x05) = .ok .ctrDec ∧ decode (wordOf 0 0 0 3 0x05) = .ok .cfbDec ∧
    decode (wordOf 0 0 0 4 0x05) = .ok .ofbDec ∧ decode (wordOf 0 0 0 5 0x05) = .ok .xtsDec ∧
    decode (wordOf 0 0 0 6 0x05) = .ok .gcmDec ∧ decode (wordOf 0 1 0 6 0x05) = .ok .gcmDecNv ∧
    decode (wordOf 0 0 0 7 0x05) = .ok (.modeDecUnsupported7 false) ∧
    decode (wordOf 0 1 0 7 0x05) = .ok (.modeDecUnsupported7 true) ∧
    decode (wordOf 0 0 0 15 0x05) = .ok (.modeDecUnsupported8to15 15 false) ∧
    decode (wordOf 0 1 0 8 0x05) = .ok (.modeDecUnsupported8to15 8 true) := by decide

theorem test_decode_pad_gf_clear :
    decode (wordOf 0 0 0 0 0x06) = .ok .pad ∧ decode (wordOf 0 0 0 0 0x07) = .ok .unpad ∧
    decode (wordOf 0 0 0 0 0x08) = .ok .gfMul ∧ decode (wordOf 0 0 0 0 0x09) = .ok .clear := by decide

theorem test_decode_single_steps :
    decode (wordOf 0 0 0 0 0x10) = .ok .subBytes ∧ decode (wordOf 0 0 0 0 0x11) = .ok .invSubBytes ∧
    decode (wordOf 0 0 0 0 0x12) = .ok .shiftRows ∧ decode (wordOf 0 0 0 0 0x13) = .ok .invShiftRows ∧
    decode (wordOf 0 0 0 0 0x14) = .ok .mixColumns ∧ decode (wordOf 0 0 0 0 0x15) = .ok .invMixColumns ∧
    decode (wordOf 0 0 0 0 0x16) = .ok (.addRoundKey 0) ∧
    decode (wordOf 15 0 0 0 0x16) = .ok (.addRoundKey 15) := by decide

/-- The ILLEGAL_CMD words of L2-1. -/
theorem test_decode_illegal : ([0x00000000, 0x0000000A, 0x0000000F, 0x00000017, 0x000000FF, 0x00004001, 0x00100704,
    0x00000100, 0x00001001, 0x00001004, 0x00010002, 0x00002604, 0x00002005, 0x00002505, 0x00001704] : List Word).all
    (fun w => decide (decode w = .error .illegalCmd)) = true := by decide

/-- Words of the opcode table run as the first command after reset: each ends with the code that a zero KEYLEN, DLEN and
IVLEN give (R205, R254, R283, R320). -/
theorem test_withFetchWord_runs :
    ([0x00000001, 0x00001002, 0x00000604, 0x00002605, 0x00000006, 0x00000007, 0x00000008, 0x00000009, 0x00000015,
      0x000F0016, 0x00000704, 0x00000804, 0x00002705, 0x00000805] : List Nat).map
        (fun w => codeOf (step (State.reset.withFetchWord 32 w))) =
      [some 1, some 1, some 1, some 1, some 0, some 5, some 0, some 0, some 0, some 1, some 6, some 6, some 6,
        some 6] := by decide +kernel

theorem test_decodeTableWord :
    decodeTableWord 32 0x000A0016 = some (.addRoundKey 10) ∧ decodeTableWord 32 0x00002605 = some .gcmDecNv ∧
    decodeTableWord 32 0x00001001 = none ∧ decodeTableWord 8 0x09 = some .clear := by decide

/-! ### Results (95_test_vectors.md L1-1 and L2-3 to L2-9) -/

/-- L2-4: the last word of each schedule. -/
theorem test_expand_lengths_and_last_words :
    (expand (testKey 16)).getLast? = some (hexBytes 4 0x4d2b30c5) ∧
    (expand (testKey 24)).getLast? = some (hexBytes 4 0xe3a41d5d) ∧
    (expand (testKey 32)).getLast? = some (hexBytes 4 0x6d68de36) := by decide +kernel

/-- L2-4: w_4, round key 10 and the zeros after it, and STATUS. -/
theorem test_keyExpand :
    onSuccess (exec .keyExpand (k128 [] [])) (fun t => t.bufFrom .roundKey 16 4 ++ t.bufFrom .roundKey 160 20) =
      some (hexBytes 4 0xd6aa74fd ++ hexBytes 16 0x13111d7fe3944a17f307a78b4d2b30c5 ++ [0, 0, 0, 0]) := by
  decide +kernel

theorem test_keyExpand_status : onSuccess (exec .keyExpand (k128 [] [])) (fun t => leBytes t.statusWord 4) =
    some [0x0A, 0x00, 0x0A, 0x00] := by decide +kernel

/-- L1-1. -/
theorem test_blockEnc : outOf (exec .blockEnc (k128 [] testBlock)) =
    some (hexBytes 16 0x69c4e0d86a7b0430d8cdb78070b4c55a) := by decide +kernel

/-- L2-5. -/
theorem test_blockDec : outOf (exec .blockDec (k128 [] (hexBytes 16 0x69c4e0d86a7b0430d8cdb78070b4c55a))) =
    some testBlock := by decide +kernel

/-- L2-5: record 1 as it lies in memory, and TRACE_COUNT. -/
theorem test_blockEncT :
    onSuccess (exec .blockEncT (k128 [] testBlock)) (fun t => t.bufFrom .trace 32 20 ++ [t.traceCount.setWidth 8]) =
      some (hexBytes 20 0x0102000063cab7040953d051cd60e0e7ba70e18c ++ [40]) := by decide +kernel

/-- L2-5: record 1 of the decryption trace. -/
theorem test_blockDecT :
    onSuccess (exec .blockDecT (k128 [] (hexBytes 16 0x69c4e0d86a7b0430d8cdb78070b4c55a)))
      (fun t => t.bufFrom .trace 32 20 ++ [t.traceCount.setWidth 8]) =
      some (hexBytes 20 0x090600007a9f102789d5f50b2beffd9f3dca4ea7 ++ [40]) := by decide +kernel

/-- L2-4: the order of the checks. -/
theorem test_block_errors :
    codeOf (exec .blockEnc (testState 16 0 15 [] [] [])) = some 2 ∧
    codeOf (exec .blockEnc (testState 16 0 4097 [] [] [])) = some 9 ∧
    codeOf (exec .blockDecT (testState 17 0 15 [] [] [])) = some 1 := by decide +kernel

theorem test_ecbEnc : outOf (exec .ecbEnc (k128 [] [])) =
    some (hexBytes 16 0x954f64f2e4e86e9eee82d20216684899) := by decide +kernel

theorem test_ecbDec : outOf (exec .ecbDec (k128 [] (hexBytes 16 0x954f64f2e4e86e9eee82d20216684899))) = some [] := by
  decide +kernel

theorem test_cbcEnc : outOf (exec .cbcEnc (k128 iv16 p18)) =
    some (hexBytes 32 0xc196d7dd2ce48e256413e116a787ea909a39241a5639fdd481ace58345737f76) := by decide +kernel

theorem test_cbcDec :
    outOf (exec .cbcDec (k128 iv16 (hexBytes 32 0xc196d7dd2ce48e256413e116a787ea909a39241a5639fdd481ace58345737f76))) =
      some p18 := by decide +kernel

theorem test_ctrEnc : outOf (exec .ctrEnc (k128 nonce12 p18)) =
    some (hexBytes 18 0xcc239b62f325c0117c7d14f49a91a7c0bd9a) := by decide +kernel

theorem test_ctrDec : outOf (exec .ctrDec (k128 nonce12 [0xcc])) = some [0x00] := by decide +kernel

theorem test_cfbEnc : outOf (exec .cfbEnc (k128 iv16 p18)) =
    some (hexBytes 18 0x5e09f3cdb2486e09483a946cf87a7f700592) := by decide +kernel

theorem test_cfbDec : outOf (exec .cfbDec (k128 iv16 (hexBytes 18 0x5e09f3cdb2486e09483a946cf87a7f700592))) =
    some p18 := by decide +kernel

theorem test_ofbEnc : outOf (exec .ofbEnc (k128 iv16 p18)) =
    some (hexBytes 18 0x5e09f3cdb2486e09483a946cf87a7f70eaef) := by decide +kernel

theorem test_ofbDec : outOf (exec .ofbDec (k128 iv16 [0x5e])) = some [0x00] := by decide +kernel

/-- ALPHA, ALWAYS. -/
theorem test_xtsEnc_alpha : outOf (exec .xtsEnc (xts ⟨.alpha, .always⟩ p18)) =
    some (hexBytes 32 0x5413dc1d26ec27d27b7a2fe4c4ba83ffcf6cf279341bf39a09ab3184ab99ef90) := by decide +kernel

/-- IF_UNALIGNED does not pad an aligned input. -/
theorem test_xtsEnc_aligned : outOf (exec .xtsEnc (xts ⟨.alpha, .ifUnaligned⟩ testBlock)) =
    some (hexBytes 16 0x5413dc1d26ec27d27b7a2fe4c4ba83ff) := by decide +kernel

theorem test_xtsDec_alpha :
    outOf (exec .xtsDec (xts ⟨.alpha, .always⟩ (hexBytes 16 0x5394cb3e691196025d4c8902a0658a1b))) = some [] := by
  decide +kernel

/-- SECTOR_INCREMENT, the second block. -/
theorem test_xtsDec_sector :
    outOf (exec .xtsDec (xts ⟨.sectorIncrement, .ifUnaligned⟩
      (hexBytes 32 0x5413dc1d26ec27d27b7a2fe4c4ba83ffd219118d00eee9a3c9070c0d996f6292))) =
      some (p18 ++ List.replicate 14 14) := by decide +kernel

/-- The stream that DOUT receives, and success; TAG is symbolic in KEYED_HASH. -/
theorem test_gcmEnc : (k128 nonce12 [0x00]).gcmStream = [0xcc] ∧
    codeOf (exec .gcmEnc (k128 nonce12 [0x00])) = some 0 := by decide +kernel

theorem test_gcmEnc_tag : ∃ t, exec .gcmEnc (k128 nonce12 [0x00]) = .next t ∧
    t.tagBytes = (Config.keyedHash (testKey 16) [0x00]).toList := by
  have hk : (k128 nonce12 [0x00]).keyBytes = testKey 16 := by decide +kernel
  have hd : (k128 nonce12 [0x00]).dataIn = [0x00] := by decide +kernel
  have ha : (k128 nonce12 [0x00]).aadBytes = [] := rfl
  have hc : (k128 nonce12 [0x00]).checkGcm = .ok () :=
    checkGcm_ok (by decide +kernel) (by decide +kernel) (by decide +kernel) (by decide +kernel)
  have h := buf_setBuf ((k128 nonce12 [0x00]).commitOut (k128 nonce12 [0x00]).gcmStream) .tag
    (gcmTag (k128 nonce12 [0x00]).keyBytes (k128 nonce12 [0x00]).dataIn (k128 nonce12 [0x00]).aadBytes)
  refine ⟨(((k128 nonce12 [0x00]).commitOut (k128 nonce12 [0x00]).gcmStream).setBuf .tag
    (gcmTag (k128 nonce12 [0x00]).keyBytes (k128 nonce12 [0x00]).dataIn (k128 nonce12 [0x00]).aadBytes)).completeOk,
    ?_, ?_⟩
  · show execGcmEnc _ = _
    rw [execGcmEnc, hc]; rfl
  · rw [hk, hd, ha] at h ⊢
    have hl : (gcmTag (testKey 16) [0x00] []).length = 16 := by simp [gcmTag]
    rw [hl] at h
    exact h

theorem test_gcmDecNv : outOf (exec .gcmDecNv (k128 nonce12 [0xcc])) = some [0x00] := by decide +kernel

/-- K128, no data and no AAD: the tag is KEYED_HASH(K128, empty). `tag` stands in TAG. -/
def gcmState (tag : Bytes) : State := (k128 nonce12 []).setBuf .tag tag

theorem gcmState_tag (tag : Bytes) (h : tag.length = 16) (k : Nat) (hk : k < 16) :
    (gcmState tag).byteAt (0x00A0 + k) = nth tag k := by
  rw [gcmState, byteAt_setBuf, if_pos (by simp only [Buf.base]; omega)]
  simp [nth, Buf.base]

/-- L2-8: GCM_DEC on a TAG that agrees. -/
theorem test_gcmDec : ∃ t, exec .gcmDec (gcmState (gcmTag (testKey 16) [] [])) = .next t ∧ t.errcode = none ∧
    t.olen = 0 := by
  have hc : (gcmState (gcmTag (testKey 16) [] [])).checkGcm = .ok () :=
    checkGcm_ok (by decide +kernel) (by decide +kernel) (by decide +kernel) (by decide +kernel)
  have hk : (gcmState (gcmTag (testKey 16) [] [])).keyBytes = testKey 16 := by decide +kernel
  have hs : (gcmState (gcmTag (testKey 16) [] [])).gcmStream = [] := by decide +kernel
  have ha : (gcmState (gcmTag (testKey 16) [] [])).aadBytes = [] := rfl
  have hl : (gcmTag (testKey 16) [] []).length = 16 := by simp [gcmTag]
  have ht : (gcmState (gcmTag (testKey 16) [] [])).tagBytes = gcmTag (testKey 16) [] [] := by
    have h := buf_setBuf (k128 nonce12 []) .tag (gcmTag (testKey 16) [] [])
    rw [hl] at h
    exact h
  refine ⟨((gcmState (gcmTag (testKey 16) [] [])).commitOut []).completeOk, ?_, rfl, rfl⟩
  show execGcmDec _ = _
  rw [execGcmDec, hc, hk, hs, ha, ht, require_pos rfl]
  rfl

/-- L2-9. -/
theorem test_error_priority :
    codeOf (exec .cbcEnc (testState 20 3 5000 [] [] [])) = some 1 ∧
    codeOf (exec .cbcEnc (testState 16 3 5000 [] [] [])) = some 9 ∧
    codeOf (exec .cbcDec (testState 16 3 17 [] [] [])) = some 3 ∧
    codeOf (exec .cbcDec (testState 16 16 17 [] [] [])) = some 2 ∧
    codeOf (exec .gcmDec { testState 16 16 0 [] [] [] with aadlen := 300 }) = some 9 ∧
    codeOf (exec .gcmEnc (testState 16 16 0 [] [] [])) = some 4 ∧
    codeOf (exec .xtsEnc (testState 16 0 5000 [] [] [])) = some 1 := by decide +kernel

theorem test_pad : outOf (exec .pad (k128 [] [0x61, 0x62, 0x63])) =
    some ([0x61, 0x62, 0x63] ++ List.replicate 13 0x0d) := by decide +kernel

theorem test_pad_full_block : outOf (exec .pad (k128 [] testBlock)) =
    some (testBlock ++ List.replicate 16 0x10) := by decide +kernel

theorem test_unpad : outOf (exec .unpad (k128 [] (hexBytes 8 0x6162630404040404))) =
    some (hexBytes 4 0x61626304) := by decide +kernel

/-- The INVALID_PADDING inputs of L2-7. -/
theorem test_unpad_invalid :
    ([[], [0x00], [0x11], List.replicate 17 0x01 ++ [0x11], hexBytes 4 0x05050505, hexBytes 4 0x61626302,
      hexBytes 8 0x0102030304040403] : List Bytes).map (fun d => codeOf (exec .unpad (k128 [] d))) =
      List.replicate 7 (some 5) := by decide +kernel

/-- L2-3. -/
theorem test_gfMul_table : gfMul 0x57 0x83 = 0xc1 ∧ gfMul 0x57 0x13 = 0xfe ∧ gfMul 0x80 0x02 = 0x1b ∧
    gfMul 0xff 0xff = 0x13 ∧ gfMul 0x00 0x5a = 0x00 ∧ gfMul 0x01 0x5a = 0x5a ∧ gfMul 0x02 0x87 = 0x15 ∧
    gfMul 0x53 0xca = 0x01 ∧ gfMul 0x0e 0x09 = 0x7e := by decide

/-- L2-3: A is the low byte of GFOP. -/
theorem test_gfMul : onSuccess (exec .gfMul { State.reset with gfop := 0x1357 }) (fun t => [t.gfres]) =
    some [0xfe] := by decide +kernel

/-- L2-3: the tables. -/
theorem test_tables : sbox 0x00 = 0x63 ∧ sbox 0x01 = 0x7c ∧ sbox 0x53 = 0xed ∧ sbox 0xff = 0x16 ∧
    invSbox 0x63 = 0x00 ∧ invSbox 0x16 = 0xff ∧
    (List.range 10).map rcon = [0x01, 0x02, 0x04, 0x08, 0x10, 0x20, 0x40, 0x80, 0x1b, 0x36] := by decide +kernel

/-- L2-2: after CLEAR the buffers read 0 and KEYLEN keeps its value. -/
theorem test_clear : onSuccess (exec .clear (k128 iv16 [0x01]))
      (fun t => t.buf .key 2 ++ t.bufFrom .trace 2047 1 ++ t.buf .din 1 ++ [t.keylen.setWidth 8]) =
    some [0, 0, 0, 0, 16] := by decide +kernel

theorem test_subBytes : stateOf (exec .subBytes (stateIs (testKey 16))) =
    some (hexBytes 16 0x637c777bf26b6fc53001672bfed7ab76) := by decide +kernel

theorem test_invSubBytes : stateOf (exec .invSubBytes (stateIs (hexBytes 16 0x637c777bf26b6fc53001672bfed7ab76))) =
    some (testKey 16) := by decide +kernel

theorem test_shiftRows : stateOf (exec .shiftRows (stateIs (testKey 16))) =
    some (hexBytes 16 0x00050a0f04090e03080d02070c01060b) := by decide +kernel

theorem test_invShiftRows : stateOf (exec .invShiftRows (stateIs (testKey 16))) =
    some (hexBytes 16 0x000d0a0704010e0b0805020f0c090603) := by decide +kernel

theorem test_mixColumns : stateOf (exec .mixColumns (stateIs (hexBytes 16 0xdb135345f20a225c01010101c6c6c6c6))) =
    some (hexBytes 16 0x8e4da1bc9fdc589d01010101c6c6c6c6) := by decide +kernel

theorem test_invMixColumns :
    stateOf (exec .invMixColumns (stateIs (hexBytes 16 0x8e4da1bc9fdc589d01010101c6c6c6c6))) =
      some (hexBytes 16 0xdb135345f20a225c01010101c6c6c6c6) := by decide +kernel

theorem test_addRoundKey : stateOf (exec (.addRoundKey 10) (stateIs testBlock)) =
    some (hexBytes 16 0x13003f4ca7c12c607b9e0d3081f6de3a) := by decide +kernel

theorem test_addRoundKey_errors : codeOf (exec (.addRoundKey 11) (stateIs testBlock)) = some 9 ∧
    codeOf (exec (.addRoundKey 0) State.reset) = some 1 := by decide +kernel

/-- L2-8: mulα. -/
theorem test_mulAlpha : mulAlpha (List.replicate 15 0 ++ [0x80]) = 0x87 :: List.replicate 15 0 ∧
    mulAlpha (0x80 :: List.replicate 15 0) = 0x00 :: 0x01 :: List.replicate 14 0 := by decide

/-- L2-2: reads right after reset. -/
theorem test_reads_after_reset :
    answer State.reset (.hostRead 0x0000 .word) = some (.data 0x41455301) ∧
    answer State.reset (.hostRead 0x0001 .byte) = some (.data 0x53) ∧
    answer State.reset (.hostRead 0x0002 .half) = some (.data 0x4145) ∧
    answer State.reset (.hostRead 0x0004 .word) = some (.data 0x01001000) ∧
    answer State.reset (.hostRead 0x000C .word) = some (.data 0) ∧
    answer State.reset (.hostRead 0x0038 .word) = some (.data 0) ∧
    answer State.reset (.hostRead 0x0010 .word) = some (.data 0) ∧
    answer State.reset (.hostRead 0x0001 .half) = some .busError ∧
    answer State.reset (.hostWrite 0x0042 .word 5) = some .busError := by decide +kernel

/-- L2-2: byte lanes. -/
theorem test_byte_lanes :
    answer (State.reset.hostWrite 0x0040 .word 0x03020100) (.hostRead 0x0043 .byte) = some (.data 0x03) ∧
    (State.reset.hostWrite 0x0040 .word 0x03020100).buf .key 4 = [0x00, 0x01, 0x02, 0x03] := by decide +kernel

/-- L2-2: a partial write to CMD, a dropped write and its acknowledgement, and IRQ. -/
theorem test_protocol :
    (State.reset.hostWrite 0x000C .half 0x0001).pending = none ∧
    ((pendingState 1).hostWrite 0x001C .word 5).dlen = 0 ∧ ((pendingState 1).hostWrite 0x001C .word 5).wdrop = true ∧
    (((pendingState 1).hostWrite 0x001C .word 5).hostWrite 0x0010 .word 0x10).wdrop = false ∧
    ({ State.reset with done := true }.hostWrite 0x0008 .word 1).irq = true ∧
    (({ State.reset with done := true }.hostWrite 0x0008 .word 1).hostWrite 0x0010 .word 2).irq = false := by
  decide +kernel

/-- L2-2: a write to KEYLEN clears KS_VALID and KS_NR and keeps DONE. -/
theorem test_key_write_drops_schedule :
    ({ State.reset with done := true, ksValid := true, ksNr := 10 }.hostWrite 0x0014 .byte 0x10).statusWord = 2 := by
  decide +kernel

/-! ### Witnesses: states and operands that meet the hypotheses of the statements, clause by clause -/

theorem witness_DecodeOfEncode : (Instr.addRoundKey 15).wellFormed = true ∧
    (Instr.modeEncUnsupported8to15 8).wellFormed = true ∧ (Instr.modeDecUnsupported8to15 15 true).wellFormed = true ∧
    Instr.gcmDecNv.wellFormed = true := by decide

theorem witness_EncodeOfDecode : decode 0x000F0016 = .ok (.addRoundKey 15) ∧
    decode 0x00002805 = .ok (.modeDecUnsupported8to15 8 true) := by decide

/-- The words for which each clause of UndefinedWordsReportTheirCode speaks; `opLegal` and `fieldsLegal` as there. -/
abbrev opLegal (op : Nat) : Prop := (0x01 ≤ op ∧ op ≤ 0x09) ∨ (0x10 ≤ op ∧ op ≤ 0x16)

abbrev fieldsLegal (w : Word) (op mode : Nat) : Prop :=
  w.extractLsb' 14 2 = 0 ∧ w.extractLsb' 20 12 = 0 ∧
    (mode ≠ 0 → op = 4 ∨ op = 5) ∧ (w.getLsbD 12 = true → op = 2 ∨ op = 3) ∧
    (w.getLsbD 13 = true → op = 5) ∧ (w.extractLsb' 16 4 ≠ 0 → op = 0x16)

theorem witness_UndefinedWords_state (w : Word) :
    (pendingState w).pending = some w ∧ (pendingState w).schedule = [] := ⟨rfl, rfl⟩

theorem witness_UndefinedWords_turn (w : Word) : enginesTurn (pendingState w) ∧
    enginesTurn (busState (some w) .engine) ∧ (busState (some w) .engine).pending = some w :=
  ⟨.inl rfl, .inr ⟨[], rfl⟩, rfl⟩

theorem witness_UndefinedWords_op : ¬ opLegal 0x00 ∧ ¬ opLegal 0x0A ∧ ¬ opLegal 0x0F ∧ ¬ opLegal 0x17 ∧
    ¬ opLegal 0xFF := by decide

theorem witness_UndefinedWords_fields : ¬ fieldsLegal 0x00004001 1 0 ∧ ¬ fieldsLegal 0x00100704 4 7 ∧
    ¬ fieldsLegal 0x00000101 1 1 ∧ ¬ fieldsLegal 0x00001001 1 0 ∧ ¬ fieldsLegal 0x00002604 4 6 ∧
    ¬ fieldsLegal 0x00010002 2 0 :=
  ⟨by decide, by decide, by decide, by decide, by decide, by decide⟩

theorem witness_UndefinedWords_mode : opLegal 4 ∧ fieldsLegal 0x00000704 4 7 ∧ fieldsLegal 0x00002F05 5 15 :=
  ⟨by decide, by decide, by decide⟩

theorem witness_UndefinedWords_noverify : opLegal 5 ∧ fieldsLegal 0x00002505 5 5 ∧ fieldsLegal 0x00002005 5 0 ∧
    (0x00002505 : Word).getLsbD 13 = true := by decide

theorem witness_StepRunsPendingCommand : decode 0x000A0016 = .ok (.addRoundKey 10) ∧
    (pendingState 0x000A0016).pending = some 0x000A0016 ∧ (pendingState 0x000A0016).schedule = [] ∧
    nextIs (busState (some 0x000A0016) .engine) .engine [] ∧ BitVec.ofNat 32 (0x000A0016 % 2 ^ 32) = (0x000A0016 : Word) :=
  by decide

theorem witness_AcceptedCommandCompletes :
    (busState (some 1) (.hostWrite 0x000C .word 2)).pending = some 1 ∧
    ∀ e ∈ (busState (some 1) (.hostWrite 0x000C .word 2)).schedule, e ≠ .reset := by decide

theorem witness_AcceptanceOfACommand (p : Option Word) :
    nextIs (busState p (.hostWrite 0x000C .word 1)) (.hostWrite 0x000C .word 1) [] ∧
    (busState p (.hostWrite 0x000C .word 1)).pending = p := ⟨rfl, rfl⟩

theorem witness_BusyFollowsTheLifeCycle :
    (∃ t, step (busState none (.hostWrite 0x000C .word 1)) = .next t ∧ t.pending = some 1) ∧
    (∃ t, step (pendingState 1) = .next t ∧ t.pending = none) ∧
    (∃ t, step (busState (some 1) .reset) = .next t ∧ t.pending = none) ∧
    ∃ t, step (busState (some 1) (.hostRead 0x0010 .word)) = .next t ∧ t.pending = some 1 :=
  ⟨⟨_, rfl, rfl⟩, ⟨_, rfl, rfl⟩, ⟨_, rfl, rfl⟩, ⟨_, rfl, rfl⟩⟩

theorem witness_DoneAndIrqComeFromCompletion :
    (∃ t, step (pendingState 8) = .next t ∧ (pendingState 8).done = false ∧ t.done = true) ∧
    ∃ t, exec .clear State.reset = .next t := ⟨⟨_, rfl, rfl, rfl⟩, ⟨_, rfl⟩⟩

theorem witness_MisalignedAccessChangesNothing : (0x0001 : BitVec 15).toNat % AccessSize.half.bytes ≠ 0 ∧
    (0x7FFE : BitVec 15).toNat % AccessSize.word.bytes ≠ 0 ∧ (0x7FFC : BitVec 15).toNat % AccessSize.word.bytes = 0 ∧
    nextIs (busState none (.hostRead 0x0001 .half)) (.hostRead 0x0001 .half) [] ∧
    nextIs (busState none (.hostWrite 0x7FFE .word 5)) (.hostWrite 0x7FFE .word 5) [] := by decide

theorem witness_IdleReadAnswersTheStoredBytes :
    nextIs (busState none (.hostRead 0x7FFE .half)) (.hostRead 0x7FFE .half) [] ∧
    (busState none (.hostRead 0x7FFE .half)).pending = none ∧ (0x7FFE : BitVec 15).toNat % AccessSize.half.bytes = 0 := by
  decide

theorem witness_BusyReadAnswersInputsAndDraws (o : BitVec 15) :
    nextIs (busState (some 1) (.hostRead o .byte)) (.hostRead o .byte) [] ∧
    (busState (some 1) (.hostRead o .byte)).pending ≠ none ∧ o.toNat % AccessSize.byte.bytes = 0 :=
  ⟨rfl, by simp [busState], Nat.mod_one _⟩

theorem witness_BusyRead_offsets : outputOffset 0x0024 ∧ outputOffset 0x0037 ∧ outputOffset 0x00AF ∧
    outputOffset 0x01EF ∧ outputOffset 0x300F ∧ outputOffset 0x47FF ∧ ¬ outputOffset 0x0028 ∧ ¬ outputOffset 0x008F ∧
    ¬ outputOffset 0x3010 :=
  ⟨by decide, by decide, by decide, by decide, by decide, by decide, by decide, by decide, by decide⟩

/-- The first and last byte of each range of WindowMap's reserved offsets. -/
theorem witness_WindowMap : ([0x0038, 0x003F, 0x00B0, 0x00FF, 0x01F0, 0x01FF, 0x0300, 0x0FFF, 0x3010, 0x3FFF, 0x4800,
    0x7FFF] : List Nat).all (fun o => decide (locate o = .reserved)) = true := by decide

theorem witness_StatusRegister :
    nextIs (busState (some 1) (.hostWrite 0x0010 .word 0x12)) (.hostWrite 0x0010 .word 0x12) [] ∧
    nextIs (busState none (.hostWrite 0x0013 .byte 0xFF)) (.hostWrite 0x0013 .byte 0xFF) [] ∧
    (0x0010 : BitVec 15).toNat % AccessSize.word.bytes = 0 ∧ (0x0013 : BitVec 15).toNat < 0x0014 := by decide

theorem witness_WritesWhileBusyAreDropped (o : BitVec 15) :
    nextIs (busState (some 1) (.hostWrite o .byte 0xFF)) (.hostWrite o .byte 0xFF) [] ∧
    (busState (some 1) (.hostWrite o .byte 0xFF)).pending ≠ none ∧ o.toNat % AccessSize.byte.bytes = 0 :=
  ⟨rfl, by simp [busState], Nat.mod_one _⟩

theorem witness_OnlyWordWritesToCmdSubmit (p : Option Word) :
    (∃ t, step (busState none (.hostWrite 0x000C .word 1)) = .next t ∧ t.pending = some 1) ∧
    nextIs (busState p (.hostWrite 0x000F .byte 1)) (.hostWrite 0x000F .byte 1) [] ∧
    (busState p (.hostWrite 0x000F .byte 1)).pending = p ∧ AccessSize.byte ≠ .word ∧
    0x000C ≤ (0x000F : BitVec 15).toNat ∧ (0x000F : BitVec 15).toNat < 0x0010 ∧
    (0x000F : BitVec 15).toNat % AccessSize.byte.bytes = 0 :=
  ⟨⟨_, rfl, rfl⟩, rfl, rfl, by decide, by decide, by decide, by decide⟩

theorem witness_RegisterWritesSetTheirFields (o : BitVec 15) (v : Word) :
    nextIs (busState none (.hostWrite o .word v)) (.hostWrite o .word v) [] ∧
    (busState none (.hostWrite o .word v)).pending = none ∧
    nextIs (busState none (.hostWrite o .byte v)) (.hostWrite o .byte v) [] ∧
    (busState none (.hostWrite o .byte v)).pending = none ∧ o.toNat % AccessSize.byte.bytes = 0 :=
  ⟨rfl, rfl, rfl, rfl, Nat.mod_one _⟩

/-- The ends of the ranges that ignore a write, and the registers beside them. -/
theorem witness_RegisterWrites_ignored : ([0x0000, 0x0007, 0x0024, 0x0027, 0x0030, 0x003F, 0x00B0, 0x00FF, 0x01F0, 0x01FF,
    0x0300, 0x0FFF, 0x3010, 0x3FFF, 0x4800, 0x7FFF] : List Nat).all (fun o => decide (ignoresWrites o)) = true ∧
    ([0x0008, 0x0023, 0x0028, 0x002F, 0x0040] : List Nat).all (fun o => decide (ignoresWrites o)) = false := by decide

/-- R84: a byte write to DLEN[15:8] leaves DLEN[7:0], and the byte of KEYLEN that holds no field still clears KS_VALID. -/
theorem test_byte_writes :
    ({ State.reset with dlen := 0x0A5 }.hostWrite 0x001D .byte 0xF1).dlen = 0x11A5 ∧
    ({ State.reset with keylen := 16, ksValid := true, ksNr := 10 }.hostWrite 0x0017 .byte 0xFF).ksValid = false ∧
    ({ State.reset with keylen := 16, ksValid := true, ksNr := 10 }.hostWrite 0x0017 .byte 0xFF).keylen = 16 := by
  decide +kernel

theorem witness_BufferWritesStoreTheirBytes (o : BitVec 15) (v : Word) :
    nextIs (busState none (.hostWrite o .byte v)) (.hostWrite o .byte v) [] ∧
    (busState none (.hostWrite o .byte v)).pending = none ∧ o.toNat % AccessSize.byte.bytes = 0 :=
  ⟨rfl, rfl, Nat.mod_one _⟩

theorem witness_BufferWrites_offsets : inBuffer 0x0040 ∧ inBuffer 0x007F ∧ inBuffer 0x0080 ∧ inBuffer 0x00AF ∧
    inBuffer 0x01EF ∧ inBuffer 0x1FFF ∧ inBuffer 0x300F ∧ inBuffer 0x47FF ∧ operandOffset 0x02FF ∧
    ¬ operandOffset 0x2000 ∧ ¬ operandOffset 0x0100 :=
  ⟨by decide, by decide, by decide, by decide, by decide, by decide, by decide, by decide, by decide, by decide, by decide⟩

theorem witness_ResetAbandonsThePendingCommand :
    nextIs (busState (some 1) .reset) .reset [] ∧ (busState (some 1) .reset).pending = some 1 := by decide

/-- A state that is not the one after reset: the schedule of K128 is valid, OLEN and TRACE_COUNT are at their ends, a command
pends. -/
def busyExample : State :=
  { (k128 [] []).setBuf .roundKey (scheduleImage (expand (testKey 16))) with
    ksValid := true, ksNr := 10, olen := 4112, traceCount := 64, pending := some 0x8, gfop := 0x8357 }

theorem witness_StepKeepsTheInvariant : busyExample.Inv ∧ ∃ t, step busyExample = .next t ∧ t.gfres = 0xc1 :=
  ⟨⟨by decide +kernel, by decide +kernel, by decide +kernel, by decide +kernel, by decide +kernel, by decide +kernel⟩,
    _, rfl, by decide +kernel⟩

theorem witness_ErrorsCommitNothing :
    (∃ t, exec .keyExpand State.reset = .next t ∧ t.errcode = some .keyLength) ∧
    ∃ t, completeWord 0x00000A00 State.reset = .next t ∧ t.errcode = some .illegalCmd := ⟨⟨_, rfl, rfl⟩, ⟨_, rfl, rfl⟩⟩

theorem witness_CommandsEndWithinTheirErrorSet :
    (xts ⟨.alpha, .ifUnaligned⟩ []).params.xtsPadPolicy = .ifUnaligned := rfl

theorem witness_UnsupportedModeCommands : BitVec.ofNat 32 (0x2005 + 256 * 15) = (0x00002F05 : Word) ∧
    BitVec.ofNat 32 (0x0004 + 256 * 7) = (0x00000704 : Word) := by decide

theorem witness_CommandsWriteOnlyTheirLocations :
    (∃ t, exec .gfMul State.reset = .next t) ∧ ¬ mayWrite .gfMul 0 0x2000 ∧ ¬ mayWrite .ecbEnc 16 0x2010 ∧
    ¬ mayWrite .keyExpand 0 0x01F0 ∧ ¬ mayWrite .blockEncT 16 0x4800 ∧ ¬ mayWrite .gcmEnc 1 0x009F :=
  ⟨⟨_, rfl⟩, by decide, by decide, by decide, by decide, by decide⟩

/-- Two states that differ in outputs and flags alone. -/
theorem witness_Outcome_SameOperands : SameOperands (k128 [] testBlock)
    { k128 [] testBlock with
      ksValid := true, ksNr := 10, olen := 5, gfres := 1, traceCount := 3, done := true, errcode := some .range } :=
  ⟨rfl, rfl, rfl, rfl, rfl, rfl, rfl, fun _ _ => rfl⟩

/-- A success of each kind of command that the clauses of OutcomeDependsOnOperandsAlone name. -/
theorem witness_Outcome_success :
    (∃ t, exec .blockEncT (k128 [] testBlock) = .next t ∧ t.errcode = none) ∧
    (∃ t, exec .gfMul (k128 [] testBlock) = .next t ∧ t.errcode = none) ∧
    writesOut .blockEncT = true ∧ writesTrace .blockEncT = true ∧ writesSchedule .blockEncT = true ∧
    inBuffer 0x47FF ∧ mayWrite .blockEncT 16 0x47FF := by
  refine ⟨⟨_, rfl, ?_⟩, ⟨_, rfl, rfl⟩, by decide, by decide, by decide, by decide, by decide⟩
  decide +kernel

theorem witness_TablesFollowTheField : gfMul 0x53 0xca = 1 ∧ gfMul 1 1 = 1 ∧ (0xFF : Byte) ≠ 0 := by decide

theorem witness_key_lengths : aesKeyLength (testKey 16).length ∧ aesKeyLength (testKey 24).length ∧
    aesKeyLength (testKey 32).length ∧ testBlock.length = 16 := by decide

theorem witness_ExpandFollowsTheKeySchedule_indices : (0 : Nat) < 4 ∧ (5 : Nat) < 6 ∧ (8 : Nat) ≤ 8 ∧ 59 < 4 * (8 + 7) := by
  decide

theorem witness_badKey : badKey (k128 [] []) = false ∧ badKey (testState 24 0 0 [] [] []) = false ∧
    badKey (testState 32 0 0 [] [] []) = false ∧ badKey State.reset = true ∧ badKey (testState 17 0 0 [] [] []) = true ∧
    badKey (testState 33 0 0 [] [] []) = true := by decide

theorem witness_AddRoundKeyCommand : 10 ≤ (k128 [] []).keylen.toNat / 4 + 6 ∧
    (k128 [] []).keylen.toNat / 4 + 6 < 11 := by decide

theorem witness_BlockCommands : blockChecks (k128 [] testBlock) = none ∧
    blockChecks (testState 15 0 16 [] [] []) = some .keyLength ∧ blockChecks (testState 16 0 4097 [] [] []) = some .range ∧
    blockChecks (testState 16 0 17 [] [] []) = some .blockLength := by decide +kernel

/-- A state `u` and a step of it as SingleStepsComputeTheCipher asks for them. -/
theorem witness_SingleStepsComputeTheCipher :
    badKey (stateIs testBlock) = false ∧ (k128 [] testBlock).keylen = (stateIs testBlock).keylen ∧
    (k128 [] testBlock).keyBytes = (stateIs testBlock).keyBytes ∧ (k128 [] testBlock).dlen = 16 ∧
    (k128 [] testBlock).blockIn = (stateIs testBlock).stateBytes ∧ ∃ v, exec .blockEnc (k128 [] testBlock) = .next v :=
  ⟨by decide +kernel, by decide +kernel, by decide +kernel, by decide +kernel, by decide +kernel, _, rfl⟩

theorem witness_PadCommand : longData (testState 0 0 4096 [] [] []) = false ∧ longData (testState 0 0 4097 [] [] []) = true := by
  decide +kernel

theorem witness_UnpadCommand_valid : paddingValid (dinByte (k128 [] [0x01])) 1 ∧
    paddingValid (dinByte (k128 [] (List.replicate 16 0x10))) 16 := by
  refine ⟨⟨by decide +kernel, by decide +kernel, by decide +kernel, ?_⟩,
    by decide +kernel, by decide +kernel, by decide +kernel, ?_⟩
  · intro i _ hi; interval_cases i; decide +kernel
  · intro i _ hi; interval_cases i <;> decide +kernel

theorem witness_UnpadCommand_invalid : ¬ paddingValid (dinByte (k128 [] [0x00])) 1 ∧
    ¬ paddingValid (dinByte (k128 [] [])) 0 ∧ ¬ paddingValid (dinByte (k128 [] (hexBytes 4 0x61626302))) 4 := by
  refine ⟨fun h => absurd h.1 (by decide +kernel), fun h => ?_, fun h => ?_⟩
  · have := h.1; have := h.2.2.1; omega
  · exact absurd (h.2.2.2 2 (by decide +kernel) (by decide)) (by decide +kernel)

theorem witness_UnpadInvertsPad : ([0x61, 0x00] : Bytes).getLast? = some 0x00 ∧
    ([0x11] : Bytes).getLast? = some 0x11 ∧ 16 < (0x11 : Byte).toNat ∧ unpadBytes [0x61, 0x01] = .ok [0x61] ∧
    unpadBytes (List.replicate 16 0x10) = .ok [] := by decide +kernel

theorem witness_EcbCommands_checks : ecbEncChecks (k128 [] []) = none ∧ ecbDecChecks (k128 [] testBlock) = none ∧
    ecbEncChecks (testState 0 0 0 [] [] []) = some .keyLength ∧ ecbEncChecks (testState 32 0 4097 [] [] []) = some .range ∧
    ecbDecChecks (testState 24 0 17 [] [] []) = some .blockLength ∧ ecbDecChecks (testState 24 0 4097 [] [] []) = some .range := by
  decide +kernel

/-- A first block of sixteen 10H is valid padding. -/
theorem paddingValid_of_block {b : Nat → Bytes} (h : b 0 = List.replicate 16 0x10) :
    paddingValid (byteOfBlocks b) 16 := by
  have hy : ∀ i, i < 16 → byteOfBlocks b i = 0x10 := by
    intro i hi
    unfold byteOfBlocks
    rw [Nat.div_eq_of_lt hi, Nat.mod_eq_of_lt hi, h]
    interval_cases i <;> rfl
  refine ⟨by rw [hy _ (by decide)]; decide, by rw [hy _ (by decide)]; decide, by rw [hy _ (by decide)]; decide, ?_⟩
  intro i _ hi
  rw [hy i hi, hy _ (by decide)]

/-- No data is invalid padding. -/
theorem not_paddingValid_empty (y : Nat → Byte) : ¬ paddingValid y 0 := fun h => by
  have h1 := h.1; have h2 := h.2.2.1; omega

theorem witness_EcbCommands_valid :
    paddingValid (byteOfBlocks fun j => D (k128 [] (hexBytes 16 0x954f64f2e4e86e9eee82d20216684899))
      (blockOf (dinByte (k128 [] (hexBytes 16 0x954f64f2e4e86e9eee82d20216684899))) j)) 16 :=
  paddingValid_of_block (by decide +kernel)

theorem witness_EcbCommands_invalid : ecbDecChecks (k128 [] []) = none ∧ (k128 [] []).dlen.toNat = 0 ∧
    ¬ paddingValid (byteOfBlocks fun j => D (k128 [] []) (blockOf (dinByte (k128 [] [])) j)) 0 :=
  ⟨by decide +kernel, by decide +kernel, not_paddingValid_empty _⟩

theorem witness_iv_checks : ivChecks (k128 iv16 []) = none ∧ cbcDecChecks (k128 iv16 testBlock) = none ∧
    ivChecks (testState 0 16 0 [] [] []) = some .keyLength ∧ ivChecks (testState 16 16 4097 [] [] []) = some .range ∧
    ivChecks (testState 16 12 0 [] [] []) = some .ivLength ∧ cbcDecChecks (testState 16 15 15 [] [] []) = some .ivLength ∧
    cbcDecChecks (testState 16 16 15 [] [] []) = some .blockLength := by decide +kernel

theorem witness_CbcCommands_valid :
    paddingValid (byteOfBlocks (cbcPlain (k128 iv16 (hexBytes 16 0xe315209ed0e7c94f74a65c99f6eadc1e)))) 16 :=
  paddingValid_of_block (by decide +kernel)

theorem witness_CbcCommands_invalid : cbcDecChecks (k128 iv16 []) = none ∧ (k128 iv16 []).dlen.toNat = 0 ∧
    ¬ paddingValid (byteOfBlocks (cbcPlain (k128 iv16 []))) 0 :=
  ⟨by decide +kernel, by decide +kernel, not_paddingValid_empty _⟩

theorem witness_nonce_checks : nonceChecks (k128 nonce12 []) = none ∧
    nonceChecks (testState 0 12 0 [] [] []) = some .keyLength ∧ nonceChecks (testState 16 12 4097 [] [] []) = some .range ∧
    nonceChecks (testState 16 16 0 [] [] []) = some .nonceLength := by decide +kernel

theorem witness_MulAlphaDoubles : (List.replicate 15 0x00 ++ [0x80] : Bytes).length = 16 ∧
    leNat (List.replicate 15 0x00 ++ [0x80]) = 2 ^ 127 ∧ leNat (List.replicate 15 0xFF ++ [0x7F]) = 2 ^ 127 - 1 := by
  decide

theorem witness_XtsCommands_checks :
    xtsEncChecks (xts ⟨.alpha, .always⟩ []) = none ∧ xtsEncChecks (xts ⟨.alpha, .ifUnaligned⟩ [1]) = none ∧
    raggedData (xts ⟨.alpha, .ifUnaligned⟩ [1]) = true ∧ xtsEncChecks (xts ⟨.constant, .ifUnaligned⟩ testBlock) = none ∧
    raggedData (xts ⟨.constant, .ifUnaligned⟩ testBlock) = false ∧
    xtsEncChecks (testState 16 0 0 [] [] []) = some .keyLength ∧ xtsEncChecks (testState 64 0 4097 [] [] []) = some .range ∧
    xtsDecChecks (testState 48 0 18 [] [] []) = some .blockLength ∧
    xtsDecChecks (xts ⟨.sectorIncrement, .ifUnaligned⟩ testBlock) = none := by decide +kernel

theorem witness_XtsCommands_valid :
    xtsDecChecks (xts ⟨.alpha, .always⟩ (hexBytes 16 0x5394cb3e691196025d4c8902a0658a1b)) = none ∧
    paddingValid
      (byteOfBlocks (xtsPlain (xts ⟨.alpha, .always⟩ (hexBytes 16 0x5394cb3e691196025d4c8902a0658a1b)))) 16 :=
  ⟨by decide +kernel, paddingValid_of_block (by decide +kernel)⟩

theorem witness_XtsCommands_invalid : xtsDecChecks (xts ⟨.alpha, .always⟩ []) = none ∧
    (xts ⟨.alpha, .always⟩ []).dlen.toNat = 0 ∧
    ¬ paddingValid (byteOfBlocks (xtsPlain (xts ⟨.alpha, .always⟩ []))) 0 :=
  ⟨by decide +kernel, by decide +kernel, not_paddingValid_empty _⟩

theorem witness_gcm_checks : gcmChecks (k128 nonce12 []) = none ∧ gcmChecks (testState 0 12 0 [] [] []) = some .keyLength ∧
    gcmChecks { testState 16 12 0 [] [] [] with aadlen := 257 } = some .range ∧
    gcmChecks { testState 16 12 4096 [] [] [] with aadlen := 256 } = none ∧
    gcmChecks (testState 16 16 0 [] [] []) = some .nonceLength := by decide +kernel

/-- The two comparisons of GCM_DEC: a TAG that agrees in all 16 bytes, and one that does not. -/
theorem witness_GcmCommands :
    (∀ k, k < 16 → (gcmState (gcmTag (testKey 16) [] [])).byteAt (0x00A0 + k) = nth (gcmTag (testKey 16) [] []) k) ∧
    ¬ (∀ k, k < 16 → (gcmState ((gcmTag (testKey 16) [] []).map (fun b => ~~~b))).byteAt (0x00A0 + k) =
      nth (gcmTag (testKey 16) [] []) k) := by
  have hl : (gcmTag (testKey 16) [] []).length = 16 := by simp [gcmTag]
  refine ⟨fun k hk => gcmState_tag _ hl k hk, fun h => ?_⟩
  have h0 := h 0 (by decide)
  rw [gcmState_tag _ (by simp [hl]) 0 (by decide)] at h0
  have hlt : 0 < (gcmTag (testKey 16) [] []).length := by omega
  simp only [nth, List.getD_eq_getElem?_getD, List.getElem?_map, List.getElem?_eq_getElem hlt, Option.map_some,
    Option.getD_some] at h0
  exact absurd h0 (by
    generalize (gcmTag (testKey 16) [] [])[0] = b
    revert b; decide)

theorem witness_ModesRoundTrip : aesKeyLength (testKey 24).length ∧ iv16.length = 16 ∧ nonce12.length = 12 ∧
    ∀ j : Nat, ((fun _ => testBlock) j : Bytes).length = 16 := ⟨by decide, by decide, by decide, fun _ => rfl⟩

theorem witness_UnalignedXtsAndIndependentBlocks : p18.length = (testBlock ++ [0x03, 0x04] : Bytes).length ∧
    (blocks p18)[0]? = (blocks (testBlock ++ [0x03, 0x04]))[0]? ∧ p18 ≠ testBlock ++ [0x03, 0x04] ∧
    (testBlock ++ testBlock).length = (testBlock ++ testKey 16).length ∧ (testBlock ++ testBlock).length % 16 = 0 ∧
    (blocks (testBlock ++ testBlock))[0]? = (blocks (testBlock ++ testKey 16))[0]? ∧ (blocks p18)[2]? = none := by
  decide

theorem witness_ClearCommand : inBuffer 0x0040 ∧ ¬ inBuffer 0x003F ∧ ¬ inBuffer 0x3010 :=
  ⟨by decide, by decide, by decide⟩

end Sys2Proof.Tests
end

section
/-! PROOFS. Family 20_memory.md: the window's map, and what a host read and a host write do to the state. -/

namespace Sys2Proof.Machine

open Sys2Proof Sys2Proof.Claims

/-! ### A scheduled host access -/

theorem step_hostRead {s : State} {o : BitVec 15} {z : AccessSize} {rest : List Event}
    (h : nextIs s (.hostRead o z) rest) : step s = .next (State.hostRead { s with schedule := rest } o z) :=
  step_cons h

theorem step_hostWrite {s : State} {o : BitVec 15} {z : AccessSize} {v : Word} {rest : List Event}
    (h : nextIs s (.hostWrite o z v) rest) : step s = .next (State.hostWrite { s with schedule := rest } o z v) :=
  step_cons h

theorem hostRead_misaligned (s : State) {o : BitVec 15} {z : AccessSize} (h : o.toNat % z.bytes ≠ 0) :
    s.hostRead o z = s.respond .busError := if_pos h

theorem hostRead_aligned (s : State) {o : BitVec 15} {z : AccessSize} (h : o.toNat % z.bytes = 0) :
    s.hostRead o z = { s.respond (.data (leWord (s.busBytes o.toNat z.bytes s.draws).1)) with
      draws := (s.busBytes o.toNat z.bytes s.draws).2 } := if_neg (not_not.2 h)

theorem hostWrite_misaligned (s : State) {o : BitVec 15} {z : AccessSize} (v : Word) (h : o.toNat % z.bytes ≠ 0) :
    s.hostWrite o z v = s.respond .busError := if_pos h

theorem hostWrite_aligned (s : State) {o : BitVec 15} {z : AccessSize} (v : Word) (h : o.toNat % z.bytes = 0) :
    s.hostWrite o z v = (s.alignedWrite o.toNat z v).respond .ack := if_neg (not_not.2 h)

theorem busy_eq_false {s : State} (h : s.pending = none) : s.busy = false := by simp [State.busy, h]

theorem busy_eq_true {s : State} (h : s.pending ≠ none) : s.busy = true := by
  simpa [State.busy, Option.isSome_iff_ne_none] using h

/-- The bytes of an aligned access lie within one 32-bit word of the window (R83). -/
theorem aligned_within_word {o : Nat} (z : AccessSize) (h : o % z.bytes = 0) : o / 4 = (o + z.bytes - 1) / 4 := by
  cases z <;> simp only [AccessSize.bytes] at h ⊢ <;> omega

/-! ### The window's map (R81) -/

theorem Reg.mem_all (r : Reg) : r ∈ Reg.all := by cases r <;> decide

theorem Buf.mem_all (b : Buf) : b ∈ Buf.all := by cases b <;> decide

theorem Reg.offset_bounds (r : Reg) : r.offset % 4 = 0 ∧ r.offset + 4 ≤ 0x0038 := by cases r <;> decide

theorem Reg.offset_injective {r q : Reg} (h : r.offset = q.offset) : r = q := by
  have all : ∀ r ∈ Reg.all, ∀ q ∈ Reg.all, r.offset = q.offset → r = q := by decide
  exact all r r.mem_all q q.mem_all h

theorem Buf.le_base (b : Buf) : 0x0040 ≤ b.base := by cases b <;> decide

theorem Buf.disjoint {b c : Buf} (h : b ≠ c) : b.base + b.size ≤ c.base ∨ c.base + c.size ≤ b.base := by
  have all : ∀ b ∈ Buf.all, ∀ c ∈ Buf.all, b ≠ c → b.base + b.size ≤ c.base ∨ c.base + c.size ≤ b.base := by decide
  exact all b b.mem_all c c.mem_all h

/-- `find?` answers the one member that meets the test. -/
theorem find?_eq_some_of_unique {α : Type*} {p : α → Bool} {l : List α} {a : α} (hmem : a ∈ l) (ha : p a = true)
    (huniq : ∀ b, p b = true → b = a) : l.find? p = some a := by
  cases h : l.find? p with
  | none => exact absurd ha (List.find?_eq_none.1 h a hmem)
  | some b => rw [huniq b (List.find?_some h)]

theorem locate_reg (r : Reg) {k : Nat} (hk : k < 4) : locate (r.offset + k) = .reg r k := by
  have hfind : Reg.all.find? (fun q => decide (q.offset ≤ r.offset + k) && decide (r.offset + k < q.offset + 4)) =
      some r := by
    refine find?_eq_some_of_unique r.mem_all (by simpa using hk) fun q hq => Reg.offset_injective ?_
    have hr := r.offset_bounds
    have hq4 := q.offset_bounds
    simp only [Bool.and_eq_true, decide_eq_true_eq] at hq
    omega
  simp [locate, hfind]

/-- No register lies at or above 0x0038. -/
theorem find?_reg_eq_none {o : Nat} (ho : 0x0038 ≤ o) :
    Reg.all.find? (fun r => decide (r.offset ≤ o) && decide (o < r.offset + 4)) = none := by
  refine List.find?_eq_none.2 fun r _ => ?_
  have hr := r.offset_bounds
  simp only [Bool.and_eq_true, decide_eq_true_eq]
  omega

theorem locate_buf (b : Buf) {i : Nat} (hi : i < b.size) : locate (b.base + i) = .buf b i := by
  have hfind : Buf.all.find? (fun c => decide (c.base ≤ b.base + i) && decide (b.base + i < c.base + c.size)) =
      some b := by
    refine find?_eq_some_of_unique b.mem_all (by simpa using hi) fun c hc => ?_
    by_contra hne
    have hd := Buf.disjoint hne
    simp only [Bool.and_eq_true, decide_eq_true_eq] at hc
    omega
  have hb := b.le_base
  simp [locate, find?_reg_eq_none (show 0x0038 ≤ b.base + i by omega), hfind]

theorem locate_reserved {o : Nat} (ho : 0x0038 ≤ o) (hb : ∀ b : Buf, ¬ (b.base ≤ o ∧ o < b.base + b.size)) :
    locate o = .reserved := by
  have hfind : Buf.all.find? (fun b => decide (b.base ≤ o) && decide (o < b.base + b.size)) = none :=
    List.find?_eq_none.2 fun b _ => by simpa using hb b
  simp [locate, find?_reg_eq_none ho, hfind]

/-! ### Reads while idle -/

theorem busBytes_idle {s : State} (h : s.busy = false) (n o d : Nat) :
    s.busBytes o n d = ((List.range n).map fun k => s.placeByte (locate (o + k)), d) := by
  induction n generalizing o with
  | zero => rfl
  | succ n ih =>
    have hfirst : s.busByte o d = (s.placeByte (locate o), d) := by simp [State.busByte, h]
    simp [State.busBytes, hfirst, ih, List.range_succ_eq_map, Nat.add_assoc, Nat.add_comm 1]

theorem leNat_lt (bs : Bytes) : leNat bs < 256 ^ bs.length := by
  induction bs with
  | nil => decide
  | cons b bs ih =>
    have hb := b.isLt
    simp only [leNat, List.length_cons, Nat.pow_succ]
    omega

theorem leNat_concat (bs : Bytes) (b : Byte) : leNat (bs ++ [b]) = leNat bs + b.toNat * 256 ^ bs.length := by
  induction bs with
  | nil => simp [leNat]
  | cons c bs ih => simp only [List.cons_append, leNat, ih, List.length_cons, Nat.pow_succ]; ring

theorem leNat_map_range (f : Nat → Byte) (n : Nat) : leNat ((List.range n).map f) = leSum f n := by
  induction n with
  | zero => rfl
  | succ n ih =>
    simp [List.range_succ, leNat_concat, ih, leSum, Nat.pow_mul]

/-- Four bytes at most fit the word that the bus answers. -/
theorem toNat_leWord (bs : Bytes) (h : bs.length ≤ 4) : (leWord bs).toNat = leNat bs := by
  induction bs with
  | nil => rfl
  | cons b bs ih =>
    have hlen : bs.length ≤ 3 := Nat.le_of_lt_succ (by simpa using h)
    have hlt : leNat bs < 256 ^ 3 := (leNat_lt bs).trans_le (Nat.pow_le_pow_right (by decide) hlen)
    have hb : b.toNat < 2 ^ 8 := b.isLt
    have hor := Nat.two_pow_add_eq_or_of_lt hb (leNat bs)
    have hsmall : b.toNat % 2 ^ 32 = b.toNat := Nat.mod_eq_of_lt (by omega)
    have hshift : 2 ^ 8 * leNat bs % 2 ^ 32 = 2 ^ 8 * leNat bs := Nat.mod_eq_of_lt (by omega)
    simp only [leWord, leNat, BitVec.toNat_or, BitVec.toNat_setWidth, BitVec.toNat_shiftLeft, ih (by omega),
      Nat.shiftLeft_eq, Nat.mul_comm (leNat bs), hsmall, hshift]
    rw [Nat.lor_comm, ← hor]
    omega

theorem AccessSize.bytes_bounds (z : AccessSize) : 1 ≤ z.bytes ∧ z.bytes ≤ 4 := by cases z <;> decide

/-! ### Bytes of a written word -/

theorem getLsbD_ff (i : Nat) : (0xFF : Word).getLsbD i = decide (i < 8) := by
  by_cases hi : i < 8
  · interval_cases i <;> rfl
  · have hlt : (0xFF : Word) = (0xFF : Byte).setWidth 32 := by decide
    rw [hlt, BitVec.getLsbD_setWidth, BitVec.getLsbD_of_ge _ _ (Nat.le_of_not_lt hi)]
    simp [hi]

/-- Bit `j` of a word with byte `k` replaced. -/
theorem getLsbD_withByte (w : Word) (b : Byte) (k : Nat) {j : Nat} (hj : j < 32) :
    (withByte w k b).getLsbD j = if j / 8 = k then b.getLsbD (j % 8) else w.getLsbD j := by
  simp only [withByte, BitVec.getLsbD_or, BitVec.getLsbD_and, BitVec.getLsbD_not, BitVec.getLsbD_shiftLeft,
    BitVec.getLsbD_setWidth, getLsbD_ff, hj, decide_true, Bool.true_and]
  by_cases hk : j / 8 = k
  · have hlow : ¬ j < 8 * k := by omega
    have hmod : j - 8 * k = j % 8 := by omega
    have h32 : j % 8 < 32 := by omega
    simp [hk, hlow, hmod, h32, Nat.mod_lt]
  · by_cases hlow : j < 8 * k
    · simp [hk, hlow]
    · have hout : ¬ j - 8 * k < 8 := by omega
      simp [hk, hlow, hout, BitVec.getLsbD_of_ge b _ (Nat.le_of_not_lt hout)]

/-- The bytes presented by an access, the first one apart. -/
theorem leBytes_eq_cons (v : Word) (z : AccessSize) :
    leBytes v z.bytes = byteOf v 0 :: (leBytes v z.bytes).tail := by cases z <;> rfl

@[simp] theorem length_leBytes (v : Word) (n : Nat) : (leBytes v n).length = n := by simp [leBytes]

/-! ### Written bytes -/

/-- Bytes that every place ignores leave the state as it is. -/
theorem writeBytes_ignored {s : State} {o : Nat} {bs : Bytes}
    (h : ∀ k, k < bs.length → ∀ b, s.writePlace (locate (o + k)) b = s) : s.writeBytes o bs = s := by
  induction bs generalizing o with
  | nil => rfl
  | cons b bs ih =>
    have hfirst : s.writePlace (locate o) b = s := h 0 (by simp) b
    rw [State.writeBytes, hfirst]
    refine ih fun k hk c => ?_
    have hnext := h (k + 1) (by simpa using hk) c
    rwa [show o + (k + 1) = o + 1 + k by omega] at hnext

/-- An aligned write to a register of which byte 0 alone takes effect. -/
theorem writeBytes_reg_byte0 {s : State} {r : Reg} {o : Nat} {z : AccessSize} (v : Word)
    (hignored : ∀ (t : State) (k : Nat) (b : Byte), 0 < k → t.writePlace (.reg r k) b = t)
    (ho : r.offset ≤ o ∧ o < r.offset + 4) (ha : o % z.bytes = 0) :
    s.writeBytes o (leBytes v z.bytes) = if o = r.offset then s.writePlace (.reg r 0) (byteOf v 0) else s := by
  have hword := aligned_within_word z ha
  have hr := r.offset_bounds
  have hn := z.bytes_bounds
  have hbyte : ∀ (t : State) (a : Nat) (b : Byte), r.offset < a → a < o + z.bytes → t.writePlace (locate a) b = t := by
    intro t a b hlo hhi
    have hloc := locate_reg r (show a - r.offset < 4 by omega)
    rw [show r.offset + (a - r.offset) = a by omega] at hloc
    rw [hloc, hignored t _ b (by omega)]
  by_cases heq : o = r.offset
  · have hloc : locate o = .reg r 0 := heq ▸ locate_reg r (show 0 < 4 by omega)
    rw [if_pos heq, leBytes_eq_cons, State.writeBytes, hloc]
    refine writeBytes_ignored fun k hk b => hbyte _ _ b (by omega) ?_
    simp only [List.length_tail, length_leBytes] at hk
    omega
  · rw [if_neg heq]
    refine writeBytes_ignored fun k hk b => hbyte _ _ b (by omega) ?_
    rw [length_leBytes] at hk
    omega

/-- A byte written to CTRL: bit 0 of byte 0 is IRQ_EN (R34). -/
theorem writePlace_ctrl (s : State) (k : Nat) (b : Byte) :
    s.writePlace (.reg .ctrl k) b = { s with irqEn := if k = 0 then b.getLsbD 0 else s.irqEn } := by
  have hbit : (regWord s .ctrl).getLsbD 0 = s.irqEn := by
    cases h : s.irqEn <;> simp [regWord, bitAt, h]
  simp only [State.writePlace, State.setReg, getLsbD_withByte _ b k (show 0 < 32 by omega), hbit, Nat.zero_div,
    Nat.zero_mod, @eq_comm _ 0 k]

/-- A byte written to STATUS: ones in bits 1 and 4 of byte 0 clear DONE and WDROP (R35). -/
theorem writePlace_status (s : State) (k : Nat) (b : Byte) :
    s.writePlace (.reg .status k) b =
      if k = 0 then { s with done := s.done && !b.getLsbD 1, wdrop := s.wdrop && !b.getLsbD 4 } else s := by
  simp only [State.writePlace, State.writeStatusByte, State.ackDone]
  cases b.getLsbD 1 <;> cases b.getLsbD 4 <;> simp

/-! ### Aligned writes to CTRL, STATUS and CMD -/

theorem alignedWrite_ctrl (s : State) {o : Nat} {z : AccessSize} (v : Word) (ho : 0x0008 ≤ o ∧ o < 0x000C)
    (ha : o % z.bytes = 0) :
    s.alignedWrite o z v = { s with irqEn := if o = 0x0008 then v.getLsbD 0 else s.irqEn } := by
  have hwritable : writableWhileBusy o = true := by simp [writableWhileBusy, ho]
  have hcmd : ¬ (0x000C ≤ o ∧ o < 0x0010) := by omega
  have hbytes := writeBytes_reg_byte0 (s := s) (r := .ctrl) v
    (fun t k b hk => by simp [writePlace_ctrl, hk.ne']) ho ha
  have hbit : (byteOf v 0).getLsbD 0 = v.getLsbD 0 := by simp [byteOf]
  rw [State.alignedWrite, if_neg (by simp [hwritable]), if_neg hcmd, hbytes, writePlace_ctrl, hbit]
  by_cases hfirst : o = 0x0008 <;> simp [Reg.offset, hfirst]

theorem alignedWrite_status (s : State) {o : Nat} {z : AccessSize} (v : Word) (ho : 0x0010 ≤ o ∧ o < 0x0014)
    (ha : o % z.bytes = 0) :
    s.alignedWrite o z v = { s with
      done := s.done && !(decide (o = 0x0010) && v.getLsbD 1)
      wdrop := s.wdrop && !(decide (o = 0x0010) && v.getLsbD 4) } := by
  have hwritable : writableWhileBusy o = true := by simp [writableWhileBusy, ho]
  have hcmd : ¬ (0x000C ≤ o ∧ o < 0x0010) := by omega
  have hbytes := writeBytes_reg_byte0 (s := s) (r := .status) v
    (fun t k b hk => by simp [writePlace_status, hk.ne']) ho ha
  have hbits : (byteOf v 0).getLsbD 1 = v.getLsbD 1 ∧ (byteOf v 0).getLsbD 4 = v.getLsbD 4 := by simp [byteOf]
  rw [State.alignedWrite, if_neg (by simp [hwritable]), if_neg hcmd, hbytes, writePlace_status, hbits.1, hbits.2]
  by_cases hfirst : o = 0x0010 <;> simp [Reg.offset, hfirst]

/-- An 8-bit or 16-bit write to CMD while idle has no effect (R87). -/
theorem alignedWrite_cmd_partial {s : State} {o : Nat} {z : AccessSize} (v : Word) (hb : s.busy = false)
    (ho : 0x000C ≤ o ∧ o < 0x0010) (hz : z ≠ .word) : s.alignedWrite o z v = s := by
  simp [State.alignedWrite, hb, ho, hz]

theorem writableWhileBusy_eq_false {o : Nat} (ho : o < 0x0008 ∨ (0x000C ≤ o ∧ o < 0x0010) ∨ 0x0014 ≤ o) :
    writableWhileBusy o = false := by
  simp only [writableWhileBusy, Bool.or_eq_false_iff, Bool.and_eq_false_iff, decide_eq_false_iff_not]
  omega

/-- While idle, an aligned write keeps `pending`, or it is the 32-bit write to CMD that submits the command (R87). -/
theorem alignedWrite_pending_idle {s : State} {o : Nat} {z : AccessSize} {v : Word} (hb : s.busy = false)
    (ha : o % z.bytes = 0) :
    (s.alignedWrite o z v).pending = s.pending ∨ (o = 0x000C ∧ z = .word ∧ (s.alignedWrite o z v).pending = some v) := by
  by_cases hcmd : 0x000C ≤ o ∧ o < 0x0010
  · by_cases hz : z = .word
    · subst hz
      have ho : o = 0x000C := by simp only [AccessSize.bytes] at ha; omega
      rw [ho, alignedWrite_cmd v hb]
      exact .inr ⟨rfl, rfl, rfl⟩
    · rw [alignedWrite_cmd_partial v hb hcmd hz]
      exact .inl rfl
  · left
    simp only [State.alignedWrite, hb, hcmd]
    simpa using (writeBytes_keeps (leBytes v z.bytes) s o).1

/-- While idle, a host write leaves a word pending only as the 32-bit write of that word to CMD (R87). -/
theorem hostWrite_submits {s : State} {o : BitVec 15} {z : AccessSize} {v w : Word} (hidle : s.pending = none)
    (h : (s.hostWrite o z v).pending = some w) : o = 0x000C ∧ z = .word ∧ v = w := by
  by_cases ha : o.toNat % z.bytes = 0
  · rw [hostWrite_aligned s v ha, State.respond_pending] at h
    rcases alignedWrite_pending_idle (v := v) (busy_eq_false hidle) ha with hkeep | ⟨ho, hz, hsub⟩
    · simp [h, hidle] at hkeep
    · exact ⟨BitVec.eq_of_toNat_eq ho, hz, by simpa [h] using hsub.symm⟩
  · rw [hostWrite_misaligned s v ha, State.respond_pending, hidle] at h
    cases h

/-- The one step that leaves an idle engine with a pending word (R87, R150). -/
theorem step_submits {s t : State} {w : Word} (hidle : s.pending = none) (ht : step s = .next t)
    (hw : t.pending = some w) : ∃ rest, nextIs s (.hostWrite 0x000C .word w) rest := by
  have hkept : t.pending ≠ s.pending := by simp [hw, hidle]
  rcases step_cases ht with ⟨-, hturn⟩ | ⟨e, rest, hs, he⟩
  · rw [engineTurn_idle hidle] at hturn
    cases hturn
    exact absurd rfl hkept
  · have hidle' : State.pending { s with schedule := rest } = none := hidle
    cases e with
    | hostRead o z =>
      obtain ⟨r, d, hread⟩ := hostRead_eq { s with schedule := rest } o z
      rw [eventStep_hostRead, hread] at he
      cases he
      exact absurd rfl hkept
    | hostWrite o z v =>
      cases he
      obtain ⟨rfl, rfl, rfl⟩ := hostWrite_submits hidle' hw
      exact ⟨rest, hs⟩
    | engine =>
      rw [eventStep_engine, engineTurn_idle hidle'] at he
      cases he
      exact absurd rfl hkept
    | reset =>
      cases he
      cases hw

/-! ### Steps of aligned writes -/

section
variable {s : State} {o : BitVec 15} {z : AccessSize} {v : Word} {rest : List Event}

/-- An aligned write while busy outside CTRL and STATUS is dropped (R88). -/
theorem step_write_dropped (h : nextIs s (.hostWrite o z v) rest) (hbusy : s.pending ≠ none)
    (ha : o.toNat % z.bytes = 0)
    (ho : o.toNat < 0x0008 ∨ (0x000C ≤ o.toNat ∧ o.toNat < 0x0010) ∨ 0x0014 ≤ o.toNat) :
    step s = .next { s with schedule := rest, response := some .ack, wdrop := true } := by
  have hb : State.busy { s with schedule := rest } = true := busy_eq_true hbusy
  rw [step_hostWrite h, hostWrite_aligned _ v ha, alignedWrite_busy z v hb (writableWhileBusy_eq_false ho)]
  rfl

/-- An aligned write to CTRL, idle or busy. -/
theorem step_write_ctrl (h : nextIs s (.hostWrite o z v) rest) (ha : o.toNat % z.bytes = 0)
    (ho : 0x0008 ≤ o.toNat ∧ o.toNat < 0x000C) :
    step s = .next { s with
      schedule := rest, response := some .ack, irqEn := if o = 0x0008 then v.getLsbD 0 else s.irqEn } := by
  rw [step_hostWrite h, hostWrite_aligned _ v ha, alignedWrite_ctrl _ v ho ha]
  simp only [← BitVec.toNat_inj]
  rfl

/-- An aligned write to STATUS, idle or busy. -/
theorem step_write_status (h : nextIs s (.hostWrite o z v) rest) (ha : o.toNat % z.bytes = 0)
    (ho : 0x0010 ≤ o.toNat ∧ o.toNat < 0x0014) :
    step s = .next { s with
      schedule := rest, response := some .ack,
      done := s.done && !(o == 0x0010 && v.getLsbD 1),
      wdrop := s.wdrop && !(o == 0x0010 && v.getLsbD 4) } := by
  rw [step_hostWrite h, hostWrite_aligned _ v ha, alignedWrite_status _ v ho ha]
  simp only [beq_eq_decide, ← BitVec.toNat_inj]
  rfl

end

/-- Registers and flags that hold no operand may differ. -/
theorem sameOperands_of_flags (s : State) (rest : List Event) (r : Option Response) (i d w : Bool) :
    SameOperands s { s with schedule := rest, response := r, irqEn := i, done := d, wdrop := w } :=
  ⟨rfl, rfl, rfl, rfl, rfl, rfl, rfl, fun _ _ => rfl⟩

/-! ### The statements of 20_memory.md -/

/-- Settles O12: the bytes of an idle read are the stored ones, and the word of at most four bytes has their sum. -/
theorem idleReadAnswersTheStoredBytes : Obligations.IdleReadAnswersTheStoredBytes := by
  intro s o z rest hnext hidle ha
  have hb : State.busy { s with schedule := rest } = false := busy_eq_false hidle
  refine ⟨leWord ((List.range z.bytes).map fun k => s.placeByte (locate (o.toNat + k))), ?_, ?_⟩
  · rw [step_hostRead hnext, hostRead_aligned _ ha, busBytes_idle hb]; rfl
  · rw [toNat_leWord _ (by simpa using z.bytes_bounds.2), leNat_map_range]

/-- Settles O11: both accesses answer the bus error alone, and an aligned one stays within one word. -/
theorem misalignedAccessChangesNothing : Obligations.MisalignedAccessChangesNothing := by
  intro s o z v rest
  refine ⟨fun hmis => ⟨fun hnext => ?_, fun hnext => ?_⟩, aligned_within_word z⟩
  · rw [step_hostRead hnext, hostRead_misaligned _ hmis]; rfl
  · rw [step_hostWrite hnext, hostWrite_misaligned _ v hmis]; rfl

/-- Settles O16: outside CTRL and STATUS the write is dropped; within them it changes flags alone. -/
theorem writesWhileBusyAreDropped : Obligations.WritesWhileBusyAreDropped := by
  intro s o z v rest hnext hbusy ha
  refine ⟨fun ho => ⟨_, step_write_dropped hnext hbusy ha ho⟩, fun ho => ⟨_, step_write_ctrl hnext ha ho⟩,
    fun ho => ⟨_, step_write_status hnext ha ho⟩, fun t ht => ?_⟩
  have hranges : (o.toNat < 0x0008 ∨ (0x000C ≤ o.toNat ∧ o.toNat < 0x0010) ∨ 0x0014 ≤ o.toNat) ∨
      (0x0008 ≤ o.toNat ∧ o.toNat < 0x000C) ∨ (0x0010 ≤ o.toNat ∧ o.toNat < 0x0014) := by omega
  rcases hranges with ho | ho | ho
  · cases (step_write_dropped hnext hbusy ha ho).symm.trans ht
    exact sameOperands_of_flags ..
  · cases (step_write_ctrl hnext ha ho).symm.trans ht
    exact sameOperands_of_flags ..
  · cases (step_write_status hnext ha ho).symm.trans ht
    exact sameOperands_of_flags ..

/-- Settles O17: no other step than the 32-bit write to CMD makes a word pending. -/
theorem onlyWordWritesToCmdSubmit : Obligations.OnlyWordWritesToCmdSubmit := by
  refine ⟨fun s t hidle ht w hw => step_submits hidle ht hw, fun s w rest hnext hidle => ?_,
    fun s o z v rest hnext hz hlo hhi => ⟨fun hidle => ?_, fun hbusy ha => ?_⟩⟩
  · have hb : State.busy { s with schedule := rest } = false := busy_eq_false hidle
    refine ⟨_, step_hostWrite hnext, ?_⟩
    rw [hostWrite_aligned _ w (by decide), State.respond_pending]
    exact congrArg State.pending (alignedWrite_cmd w hb)
  · have hb : State.busy { s with schedule := rest } = false := busy_eq_false hidle
    rw [step_hostWrite hnext]
    by_cases ha : o.toNat % z.bytes = 0
    · rw [hostWrite_aligned _ v ha, alignedWrite_cmd_partial v hb ⟨hlo, hhi⟩ hz]
      exact ⟨_, rfl⟩
    · rw [hostWrite_misaligned _ v ha]
      exact ⟨_, rfl⟩
  · exact ⟨_, step_write_dropped hnext hbusy ha (.inr (.inl ⟨hlo, hhi⟩))⟩

/-- Settles O14: the map by `locate_reg`, `locate_buf` and `locate_reserved`; a field narrower than its register is
zero-extended. -/
theorem windowMap : Obligations.WindowMap := by
  refine ⟨fun k hk => ?_, fun i => ?_, fun o ho => ?_, fun _ _ _ => rfl, fun _ => rfl, fun s i => ?_, fun s => ?_⟩
  · exact ⟨locate_reg .id hk, locate_reg .cap hk, locate_reg .ctrl hk, locate_reg .cmd hk, locate_reg .status hk,
      locate_reg .keylen hk, locate_reg .ivlen hk, locate_reg .dlen hk, locate_reg .aadlen hk, locate_reg .olen hk,
      locate_reg .sector hk, locate_reg .gfop hk, locate_reg .gfres hk, locate_reg .traceCount hk⟩
  · exact ⟨locate_buf .key, locate_buf .iv, locate_buf .state, locate_buf .tag, locate_buf .roundKey, locate_buf .aad,
      locate_buf .din, locate_buf .dout, locate_buf .trace⟩
  · refine locate_reserved (by omega) fun b => ?_
    cases b <;> simp only [Buf.base, Buf.size] <;> omega
  · exact ⟨rfl, rfl, rfl, rfl, rfl, rfl, rfl, rfl, rfl⟩
  · have hctrl : (regWord s .ctrl).toNat = s.irqEn.toNat := by
      cases h : s.irqEn <;> simp [regWord, bitAt, h]
    exact ⟨rfl, rfl, hctrl, rfl, rfl, BitVec.toNat_setWidth_of_le (by decide), BitVec.toNat_setWidth_of_le (by decide),
      BitVec.toNat_setWidth_of_le (by decide), BitVec.toNat_setWidth_of_le (by decide),
      BitVec.toNat_setWidth_of_le (by decide), rfl, BitVec.toNat_setWidth_of_le (by decide),
      BitVec.toNat_setWidth_of_le (by decide), BitVec.toNat_setWidth_of_le (by decide)⟩

end Sys2Proof.Machine
end

section
/-! PROOFS. Family 30_encoding.md: the decoder and the encoder read and write the same fields, and what a word completes
with that is no command. -/

namespace Sys2Proof

/-! ### The fields of a word (R111) -/

theorem fieldsOf_op (w : Word) : (fieldsOf w).op = w.toNat % 256 := by
  simp [fieldsOf, BitVec.extractLsb'_toNat]

theorem fieldsOf_mode (w : Word) : (fieldsOf w).mode = w.toNat / 256 % 16 := by
  simp [fieldsOf, BitVec.extractLsb'_toNat, Nat.shiftRight_eq_div_pow]

theorem fieldsOf_mode_le (w : Word) : (fieldsOf w).mode ≤ 15 := Nat.le_of_lt_succ (w.extractLsb' 8 4).isLt

theorem fieldsOf_round_le (w : Word) : (fieldsOf w).round ≤ 15 := Nat.le_of_lt_succ (w.extractLsb' 16 4).isLt

theorem fieldsOf_reserved_eq_false {w : Word} :
    (fieldsOf w).reserved = false ↔ w.extractLsb' 14 2 = 0 ∧ w.extractLsb' 20 12 = 0 := by
  simp [fieldsOf, ← BitVec.toNat_inj]

theorem fieldsOf_round_ne_zero {w : Word} : (fieldsOf w).round ≠ 0 ↔ w.extractLsb' 16 4 ≠ 0 := by
  simp [fieldsOf, ← BitVec.toNat_inj]

/-- Equal fields have equal bits. -/
theorem getLsbD_eq_of_extractLsb'_eq {w v : Word} {start len i : Nat}
    (h : w.extractLsb' start len = v.extractLsb' start len) (hlo : start ≤ i) (hhi : i < start + len) :
    w.getLsbD i = v.getLsbD i := by
  have hbit := congrArg (·.getLsbD (i - start)) h
  have hlen : i - start < len := by omega
  simpa [BitVec.getLsbD_extractLsb', hlen, Nat.add_sub_cancel' hlo] using hbit

/-- The fields and the reserved bits make up the whole word. -/
theorem eq_of_fieldsOf_eq {w v : Word} (h : fieldsOf w = fieldsOf v) (hres : (fieldsOf w).reserved = false) : w = v := by
  obtain ⟨hlow, hhigh⟩ := fieldsOf_reserved_eq_false.1 hres
  obtain ⟨hlow', hhigh'⟩ := fieldsOf_reserved_eq_false.1 (h ▸ hres)
  simp only [fieldsOf, Fields.mk.injEq, BitVec.toNat_inj] at h
  obtain ⟨hop, hmode, htrace, hnv, -, hround⟩ := h
  refine BitVec.eq_of_getLsbD_eq fun i hi => ?_
  have hranges : i < 8 ∨ (8 ≤ i ∧ i < 12) ∨ i = 12 ∨ i = 13 ∨ (14 ≤ i ∧ i < 16) ∨ (16 ≤ i ∧ i < 20) ∨ 20 ≤ i := by omega
  rcases hranges with h8 | ⟨hlo, hhi⟩ | rfl | rfl | ⟨hlo, hhi⟩ | ⟨hlo, hhi⟩ | hlo
  · exact getLsbD_eq_of_extractLsb'_eq hop (Nat.zero_le i) (by omega)
  · exact getLsbD_eq_of_extractLsb'_eq hmode hlo hhi
  · exact htrace
  · exact hnv
  · exact getLsbD_eq_of_extractLsb'_eq (hlow.trans hlow'.symm) hlo hhi
  · exact getLsbD_eq_of_extractLsb'_eq hround hlo hhi
  · exact getLsbD_eq_of_extractLsb'_eq (hhigh.trans hhigh'.symm) hlo (by omega)

/-! ### The checks of R112 -/

/-- The checks of R112 that come before the MODE ≥ 7 one. -/
structure Fields.Legal (f : Fields) : Prop where
  op : opAssigned f.op = true
  reserved : f.reserved = false
  mode : f.mode ≠ 0 → f.op = 0x04 ∨ f.op = 0x05
  trace : f.trace = true → f.op = 0x02 ∨ f.op = 0x03
  noverify : f.noverify = true → f.op = 0x05
  round : f.round ≠ 0 → f.op = 0x16

theorem opAssigned_iff {op : Nat} :
    opAssigned op = true ↔ (0x01 ≤ op ∧ op ≤ 0x09) ∨ (0x10 ≤ op ∧ op ≤ 0x16) := by
  simp [opAssigned]

/-- The checks of a word's fields, on the bits that R111 gives them. -/
theorem fieldsOf_legal_iff {w : Word} : (fieldsOf w).Legal ↔
    ((0x01 ≤ (fieldsOf w).op ∧ (fieldsOf w).op ≤ 0x09) ∨ (0x10 ≤ (fieldsOf w).op ∧ (fieldsOf w).op ≤ 0x16)) ∧
    w.extractLsb' 14 2 = 0 ∧ w.extractLsb' 20 12 = 0 ∧
    ((fieldsOf w).mode ≠ 0 → (fieldsOf w).op = 4 ∨ (fieldsOf w).op = 5) ∧
    (w.getLsbD 12 = true → (fieldsOf w).op = 2 ∨ (fieldsOf w).op = 3) ∧
    (w.getLsbD 13 = true → (fieldsOf w).op = 5) ∧ (w.extractLsb' 16 4 ≠ 0 → (fieldsOf w).op = 0x16) := by
  rw [← opAssigned_iff, ← fieldsOf_round_ne_zero, ← and_assoc (a := w.extractLsb' 14 2 = 0),
    ← fieldsOf_reserved_eq_false]
  exact ⟨fun ⟨hop, hres, hmode, htrace, hnv, hround⟩ => ⟨hop, hres, hmode, htrace, hnv, hround⟩,
    fun ⟨hop, hres, hmode, htrace, hnv, hround⟩ => ⟨hop, hres, hmode, htrace, hnv, hround⟩⟩

theorem decodeFields_of_not_legal {f : Fields} (h : ¬ f.Legal) : decodeFields f = .error .illegalCmd := by
  unfold decodeFields
  split_ifs with hop hres hmode htrace hnv hround
  any_goals rfl
  all_goals exact absurd ⟨by simpa using hop, by simpa using hres, by tauto, by tauto, by tauto, by tauto⟩ h

/-- The last check of R112 is the only one left for legal fields. -/
theorem decodeFields_of_legal {f : Fields} (h : f.Legal) :
    decodeFields f = if f.noverify = true ∧ f.mode ≤ 5 then .error .illegalCmd else commandOf f := by
  obtain ⟨hop, hres, hmode, htrace, hnv, hround⟩ := h
  rw [decodeFields, if_neg (by simp [hop]), if_neg (by simp [hres]), if_neg (by tauto), if_neg (by tauto),
    if_neg (by tauto), if_neg (by tauto)]
  by_cases h7 : f.mode ≥ 7
  · rw [if_pos h7, if_neg (by omega)]
  · have hlast : f.mode ≠ 6 ↔ f.mode ≤ 5 := by omega
    simp only [if_neg h7, hlast]

theorem decodeFields_ok {f : Fields} {i : Instr} (h : decodeFields f = .ok i) :
    f.Legal ∧ (f.noverify = true → 6 ≤ f.mode) ∧ commandOf f = .ok i := by
  by_cases hf : f.Legal
  · rw [decodeFields_of_legal hf] at h
    split_ifs at h with hlast
    exact ⟨hf, fun hnv => by_contra fun hlt => hlast ⟨hnv, by omega⟩, h⟩
  · rw [decodeFields_of_not_legal hf] at h
    cases h

/-! ### The fields of an instruction (R118, R119) -/

/-- The fields that stand for an instruction in its command word; those its row of R118 or R119 does not take are 0. -/
def Instr.fields : Instr → Fields
  | .keyExpand => ⟨0x01, 0, false, false, false, 0⟩
  | .blockEnc => ⟨0x02, 0, false, false, false, 0⟩
  | .blockDec => ⟨0x03, 0, false, false, false, 0⟩
  | .blockEncT => ⟨0x02, 0, true, false, false, 0⟩
  | .blockDecT => ⟨0x03, 0, true, false, false, 0⟩
  | .ecbEnc => ⟨0x04, 0, false, false, false, 0⟩
  | .cbcEnc => ⟨0x04, 1, false, false, false, 0⟩
  | .ctrEnc => ⟨0x04, 2, false, false, false, 0⟩
  | .cfbEnc => ⟨0x04, 3, false, false, false, 0⟩
  | .ofbEnc => ⟨0x04, 4, false, false, false, 0⟩
  | .xtsEnc => ⟨0x04, 5, false, false, false, 0⟩
  | .gcmEnc => ⟨0x04, 6, false, false, false, 0⟩
  | .ecbDec => ⟨0x05, 0, false, false, false, 0⟩
  | .cbcDec => ⟨0x05, 1, false, false, false, 0⟩
  | .ctrDec => ⟨0x05, 2, false, false, false, 0⟩
  | .cfbDec => ⟨0x05, 3, false, false, false, 0⟩
  | .ofbDec => ⟨0x05, 4, false, false, false, 0⟩
  | .xtsDec => ⟨0x05, 5, false, false, false, 0⟩
  | .gcmDec => ⟨0x05, 6, false, false, false, 0⟩
  | .gcmDecNv => ⟨0x05, 6, false, true, false, 0⟩
  | .pad => ⟨0x06, 0, false, false, false, 0⟩
  | .unpad => ⟨0x07, 0, false, false, false, 0⟩
  | .gfMul => ⟨0x08, 0, false, false, false, 0⟩
  | .clear => ⟨0x09, 0, false, false, false, 0⟩
  | .subBytes => ⟨0x10, 0, false, false, false, 0⟩
  | .invSubBytes => ⟨0x11, 0, false, false, false, 0⟩
  | .shiftRows => ⟨0x12, 0, false, false, false, 0⟩
  | .invShiftRows => ⟨0x13, 0, false, false, false, 0⟩
  | .mixColumns => ⟨0x14, 0, false, false, false, 0⟩
  | .invMixColumns => ⟨0x15, 0, false, false, false, 0⟩
  | .addRoundKey r => ⟨0x16, 0, false, false, false, r⟩
  | .modeEncUnsupported7 => ⟨0x04, 7, false, false, false, 0⟩
  | .modeEncUnsupported8to15 mode => ⟨0x04, mode, false, false, false, 0⟩
  | .modeDecUnsupported7 nv => ⟨0x05, 7, false, nv, false, 0⟩
  | .modeDecUnsupported8to15 mode nv => ⟨0x05, mode, false, nv, false, 0⟩

/-- The encoder writes exactly the fields of the instruction. -/
theorem fieldsOf_encode {i : Instr} (h : i.wellFormed = true) : fieldsOf (encode i) = i.fields := by
  cases i with
  | addRoundKey r =>
    have hr : r ≤ 15 := by simpa [Instr.wellFormed] using h
    interval_cases r <;> rfl
  | modeEncUnsupported8to15 mode =>
    obtain ⟨hlo, hhi⟩ : 8 ≤ mode ∧ mode ≤ 15 := by simpa [Instr.wellFormed] using h
    interval_cases mode <;> rfl
  | modeDecUnsupported7 nv => cases nv <;> rfl
  | modeDecUnsupported8to15 mode nv =>
    obtain ⟨hlo, hhi⟩ : 8 ≤ mode ∧ mode ≤ 15 := by simpa [Instr.wellFormed] using h
    cases nv <;> interval_cases mode <;> rfl
  | _ => rfl

/-- The decoder reads every well-formed instruction from its fields. -/
theorem decodeFields_fields {i : Instr} (h : i.wellFormed = true) : decodeFields i.fields = .ok i := by
  cases i with
  | addRoundKey r => simp [Instr.fields, decodeFields, opAssigned, commandOf]
  | modeEncUnsupported8to15 mode =>
    obtain ⟨hlo, hhi⟩ : 8 ≤ mode ∧ mode ≤ 15 := by simpa [Instr.wellFormed] using h
    interval_cases mode <;> rfl
  | modeDecUnsupported7 nv => cases nv <;> rfl
  | modeDecUnsupported8to15 mode nv =>
    obtain ⟨hlo, hhi⟩ : 8 ≤ mode ∧ mode ≤ 15 := by simpa [Instr.wellFormed] using h
    cases nv <;> interval_cases mode <;> rfl
  | _ => rfl

theorem modeEncOf_fields {m : Nat} (h : m ≤ 15) :
    (modeEncOf m).wellFormed = true ∧ (modeEncOf m).fields = ⟨0x04, m, false, false, false, 0⟩ := by
  interval_cases m <;> exact ⟨rfl, rfl⟩

theorem modeDecOf_fields {m : Nat} {nv : Bool} (h : m ≤ 15) (hnv : nv = true → 6 ≤ m) :
    (modeDecOf m nv).wellFormed = true ∧ (modeDecOf m nv).fields = ⟨0x05, m, false, nv, false, 0⟩ := by
  cases nv with
  | false => interval_cases m <;> exact ⟨rfl, rfl⟩
  | true =>
    have hlo : 6 ≤ m := hnv rfl
    interval_cases m <;> exact ⟨rfl, rfl⟩

theorem commandOf_modeEnc {f : Fields} (h : f.op = 0x04) : commandOf f = .ok (modeEncOf f.mode) := by
  simp only [commandOf, h]

theorem commandOf_modeDec {f : Fields} (h : f.op = 0x05) : commandOf f = .ok (modeDecOf f.mode f.noverify) := by
  simp only [commandOf, h]

/-- A command read from legal fields is well-formed and has these fields: its OP takes every field that is not 0. -/
theorem fields_of_commandOf {f : Fields} {i : Instr} (hf : f.Legal) (hnv6 : f.noverify = true → 6 ≤ f.mode)
    (hm : f.mode ≤ 15) (hr : f.round ≤ 15) (h : commandOf f = .ok i) : i.wellFormed = true ∧ i.fields = f := by
  obtain ⟨op, mode, trace, noverify, reserved, round⟩ := f
  obtain ⟨-, rfl : reserved = false, hmode, htrace, hnv, hround⟩ := hf
  unfold commandOf at h
  dsimp only at *
  split at h <;> cases h
  all_goals
    simp only [ne_eq, Nat.reduceEqDiff, or_self, or_false, or_true, imp_false, implies_true, Decidable.not_not,
      Bool.not_eq_true] at hmode htrace hnv hround
    subst_vars
  case h_2 => cases trace <;> exact ⟨rfl, rfl⟩
  case h_3 => cases trace <;> exact ⟨rfl, rfl⟩
  case h_4 => exact modeEncOf_fields hm
  case h_5 => exact modeDecOf_fields hm hnv6
  case h_16 => exact ⟨decide_eq_true hr, rfl⟩
  all_goals exact ⟨rfl, rfl⟩

/-- A legal word names the command of its fields, but for NOVERIFY with MODE 0 to 5. -/
theorem decode_of_legal {w : Word} (h : (fieldsOf w).Legal) :
    decode w = if (fieldsOf w).noverify = true ∧ (fieldsOf w).mode ≤ 5 then .error .illegalCmd
      else commandOf (fieldsOf w) := decodeFields_of_legal h

/-! ### What a pending word that is no command completes with -/

namespace Machine

open Claims

/-- At the Engine's turn, scheduled or not, the pending word completes. -/
theorem step_enginesTurn {s : State} {w : Word} (hp : s.pending = some w) (hturn : enginesTurn s) :
    step s = completeWord w { s with schedule := s.schedule.tail } := by
  rcases hturn with hs | ⟨rest, hs⟩
  · have htail : { s with schedule := s.schedule.tail } = s := by rw [hs, List.tail_nil, ← hs]
    rw [step_nil hs, engineTurn_pending hp, htail]
  · have hp' : State.pending { s with schedule := rest } = some w := hp
    rw [step_cons hs, eventStep_engine, engineTurn_pending hp', hs, List.tail_cons]

/-- A MODE_ENC command of MODE 7 to 15 completes with UNSUPPORTED_MODE (R320). -/
theorem exec_modeEncOf_unsupported (s : State) :
    ∀ {m : Nat}, 7 ≤ m → exec (modeEncOf m) s = .next (s.completeErr .unsupportedMode)
  | 7, _ => rfl
  | _ + 8, _ => rfl

/-- A MODE_DEC command of MODE 7 to 15 completes with UNSUPPORTED_MODE, whatever NOVERIFY (R320). -/
theorem exec_modeDecOf_unsupported (s : State) (nv : Bool) :
    ∀ {m : Nat}, 7 ≤ m → exec (modeDecOf m nv) s = .next (s.completeErr .unsupportedMode)
  | 7, _ => rfl
  | _ + 8, _ => rfl

theorem completeWord_unsupported {w : Word} (h : (fieldsOf w).Legal)
    (hop : (fieldsOf w).op = 4 ∨ (fieldsOf w).op = 5) (hmode : 7 ≤ (fieldsOf w).mode) (s : State) :
    completeWord w s = .next (s.completeErr .unsupportedMode) := by
  have hdecode : decode w = commandOf (fieldsOf w) := by rw [decode_of_legal h, if_neg (by omega)]
  rcases hop with hop | hop
  · rw [completeWord_ok (hdecode.trans (commandOf_modeEnc hop)), exec_modeEncOf_unsupported s hmode]
  · rw [completeWord_ok (hdecode.trans (commandOf_modeDec hop)), exec_modeDecOf_unsupported s _ hmode]

/-! ### The statements of 30_encoding.md -/

/-- Settles O1: the encoder writes the fields of the instruction, and the decoder reads it from them. -/
theorem decodeOfEncode : Obligations.DecodeOfEncode := by
  intro i hwf
  rw [decode, fieldsOf_encode hwf, decodeFields_fields hwf]

/-- Settles O2: the word and the encoding of what it decodes to have the same fields, and no reserved bit is set. -/
theorem encodeOfDecode : Obligations.EncodeOfDecode := by
  intro w i hdecode
  obtain ⟨hlegal, hnv6, hcommand⟩ := decodeFields_ok hdecode
  obtain ⟨hwf, hfields⟩ := fields_of_commandOf hlegal hnv6 (fieldsOf_mode_le w) (fieldsOf_round_le w) hcommand
  have hsame : fieldsOf w = fieldsOf (encode i) := by rw [fieldsOf_encode hwf, hfields]
  exact ⟨hwf, (eq_of_fieldsOf_eq hsame hlegal.reserved).symm⟩

/-- Settles O4: the first and the third clause are decode errors, the second the UNSUPPORTED_MODE rows. -/
theorem undefinedWordsReportTheirCode : Obligations.UndefinedWordsReportTheirCode := by
  intro s w op mode hp hturn hop hmode past opLegal fieldsLegal
  rw [← fieldsOf_op] at hop
  rw [← fieldsOf_mode] at hmode
  subst hop hmode
  have hlegal : (fieldsOf w).Legal ↔ opLegal ∧ fieldsLegal := fieldsOf_legal_iff
  rw [step_enginesTurn hp hturn]
  refine ⟨fun h => ?_, fun ⟨hopl, hfl, hop45, h7⟩ => ?_, fun ⟨hopl, hfl, _, hnv, h5⟩ => ?_⟩
  · have hnot : ¬ (fieldsOf w).Legal := by rwa [hlegal, not_and_or]
    exact completeWord_error (decodeFields_of_not_legal hnot) past
  · exact completeWord_unsupported (hlegal.2 ⟨hopl, hfl⟩) hop45 h7 past
  · have hdecode : decode w = .error .illegalCmd := by
      rw [decode_of_legal (hlegal.2 ⟨hopl, hfl⟩), if_pos ⟨hnv, h5⟩]
    exact completeWord_error hdecode past

/-- Settles O3: each of the words is the encoding of its command. -/
theorem sampleWordsDecode : Obligations.SampleWordsDecode :=
  ⟨decodeOfEncode .keyExpand rfl, decodeOfEncode .blockDecT rfl, decodeOfEncode .cfbEnc rfl,
    decodeOfEncode .gcmDecNv rfl, decodeOfEncode .unpad rfl, decodeOfEncode .gfMul rfl, decodeOfEncode .clear rfl,
    decodeOfEncode .invMixColumns rfl, decodeOfEncode (.addRoundKey 15) rfl,
    decodeOfEncode (.modeDecUnsupported7 true) rfl, decodeOfEncode (.modeEncUnsupported8to15 15) rfl⟩

end Machine
end Sys2Proof
end

section
/-! PROOFS. Family 40_command_protocol.md: acceptance, the life cycle, and what a command commits. -/

namespace Sys2Proof.Machine

open Sys2Proof Sys2Proof.Claims

/-! ### Stores of whole pieces of buffers -/

/-- Store each piece at the start of its buffer, in the order of the list. -/
def Memory.storeAll (m : Memory) (ws : List (Buf × Bytes)) : Memory :=
  ws.foldl (fun m w => m.setRange w.1.base w.2) m

/-- The byte that the pieces leave at offset `a`, if one of them reaches it: the last one that does. -/
def storedByte : List (Buf × Bytes) → Nat → Option Byte
  | [], _ => none
  | (b, bs) :: ws, a =>
    (storedByte ws a).or (if b.base ≤ a ∧ a < b.base + bs.length then bs[a - b.base]? else none)

theorem get?_storeAll (ws : List (Buf × Bytes)) (m : Memory) (a : Nat) :
    (m.storeAll ws).get? a = (storedByte ws a).or (m.get? a) := by
  induction ws generalizing m with
  | nil => rfl
  | cons w ws ih =>
    have hw : (m.setRange w.1.base w.2).get? a =
        (if w.1.base ≤ a ∧ a < w.1.base + w.2.length then w.2[a - w.1.base]? else none).or (m.get? a) := by
      rw [get?_setRange]
      split
      · rw [List.getElem?_eq_getElem (by omega), Option.some_or]
      · rfl
    rw [storedByte, Option.or_assoc, ← hw]
    exact ih _

/-- The pieces reach exactly the offsets of their ranges. -/
theorem isSome_storedByte {ws : List (Buf × Bytes)} {a : Nat} :
    (storedByte ws a).isSome = true ↔ ∃ w ∈ ws, w.1.base ≤ a ∧ a < w.1.base + w.2.length := by
  induction ws with
  | nil => simp [storedByte]
  | cons w ws ih =>
    rw [storedByte, Option.isSome_or, Bool.or_eq_true, ih, List.exists_mem_cons_iff, or_comm]
    refine or_congr_left ?_
    split
    next hw =>
      have hlt : a - w.1.base < w.2.length := by omega
      simp [hw, hlt]
    next hw => simp [hw]

theorem isSome_storedByte_nil {a : Nat} : (storedByte [] a).isSome = true ↔ False := by
  simp [storedByte]

theorem isSome_storedByte_cons {b : Buf} {bs : Bytes} {ws : List (Buf × Bytes)} {a : Nat} :
    (storedByte ((b, bs) :: ws) a).isSome = true ↔
      (b.base ≤ a ∧ a < b.base + bs.length) ∨ (storedByte ws a).isSome = true := by
  simp only [isSome_storedByte, List.exists_mem_cons_iff]

/-- A stored byte is one of the bytes of some piece. -/
theorem mem_of_storedByte {ws : List (Buf × Bytes)} {a : Nat} {x : Byte} (h : storedByte ws a = some x) :
    ∃ w ∈ ws, x ∈ w.2 := by
  induction ws with
  | nil => cases h
  | cons w ws ih =>
    rw [storedByte, Option.or_eq_some_iff] at h
    rcases h with h | ⟨-, h⟩
    · obtain ⟨v, hv, hx⟩ := ih h
      exact ⟨v, List.mem_cons_of_mem _ hv, hx⟩
    · split at h
      · exact ⟨w, List.mem_cons_self, List.mem_of_getElem? h⟩
      · cases h

/-! ### What a command commits (R152, R156) -/

/-- The writes of a command that succeeds: the pieces of buffers, and the new values of the output registers that it
writes. -/
structure Commit where
  stores : List (Buf × Bytes) := []
  olen : Option (BitVec 13) := none
  gfres : Option Byte := none
  traceCount : Option (BitVec 7) := none
  ksValid : Option Bool := none
  ksNr : Option (BitVec 4) := none

namespace Commit

/-- `s` with the writes applied. -/
def apply (c : Commit) (s : State) : State :=
  { s with
    mem := s.mem.storeAll c.stores
    olen := c.olen.getD s.olen
    gfres := c.gfres.getD s.gfres
    traceCount := c.traceCount.getD s.traceCount
    ksValid := c.ksValid.getD s.ksValid
    ksNr := c.ksNr.getD s.ksNr }

theorem byteAt_apply (c : Commit) (s : State) (a : Nat) :
    (c.apply s).byteAt a = (storedByte c.stores a).getD (s.byteAt a) := by
  have hget : (c.apply s).mem.get? a = (storedByte c.stores a).or (s.mem.get? a) := get?_storeAll _ _ _
  unfold State.byteAt
  rw [hget]
  cases storedByte c.stores a <;> rfl

/-- DOUT and OLEN (R53). -/
def ofOut (out : Bytes) : Commit where
  stores := [(.dout, out)]
  olen := some (BitVec.ofNat 13 out.length)

/-- DOUT, OLEN and TAG (R317). -/
def ofOutTag (out tag : Bytes) : Commit := { ofOut out with stores := [(.dout, out), (.tag, tag)] }

/-- STATE (R48). -/
def ofState (b : Bytes) : Commit where
  stores := [(.state, b)]

/-- ROUNDKEY, KS_VALID and KS_NR for a key (R50, R205). -/
def ofKey (key : Bytes) : Commit where
  stores := [(.roundKey, scheduleImage (expand key))]
  ksValid := some true
  ksNr := some (BitVec.ofNat 4 (nrOf key.length))

/-- DOUT and OLEN, TRACE and TRACE_COUNT, and the schedule (R256). -/
def ofTrace (out key : Bytes) (trace : List TraceRecord) : Commit :=
  { ofKey key with
    stores := [(.dout, out), (.trace, traceImage trace), (.roundKey, scheduleImage (expand key))]
    olen := some (BitVec.ofNat 13 out.length)
    traceCount := some (BitVec.ofNat 7 trace.length) }

/-- GFRES (R186). -/
def ofGfres (b : Byte) : Commit where
  gfres := some b

/-- Zeros in all the buffers and output registers (R160). -/
def zeros : Commit where
  stores := Buf.all.map fun b => (b, List.replicate b.size 0)
  olen := some 0
  gfres := some 0
  traceCount := some 0
  ksValid := some false
  ksNr := some 0

/-! The writes are those of the model's own commits. -/

theorem apply_ofOut (s : State) (out : Bytes) : (ofOut out).apply s = s.commitOut out := rfl

theorem apply_ofOutTag (s : State) (out tag : Bytes) :
    (ofOutTag out tag).apply s = (s.commitOut out).setBuf .tag tag := rfl

theorem apply_ofState (s : State) (b : Bytes) : (ofState b).apply s = s.commitState b := rfl

theorem apply_ofKey (s : State) (key : Bytes) :
    (ofKey key).apply s = s.commitSchedule (expand key) (nrOf key.length) := rfl

theorem apply_ofTrace (s : State) (out key : Bytes) (trace : List TraceRecord) :
    (ofTrace out key trace).apply s = (s.commitOut out).commitTrace key trace := rfl

theorem apply_ofGfres (s : State) (b : Byte) : (ofGfres b).apply s = { s with gfres := b } := rfl

/-- Zeroing buffers one after another stores one piece of zeros for each. -/
theorem foldl_zeroBuf (bufs : List Buf) (s : State) :
    bufs.foldl State.zeroBuf s =
      { s with mem := s.mem.storeAll (bufs.map fun b => (b, List.replicate b.size 0)) } := by
  induction bufs generalizing s with
  | nil => rfl
  | cons b bufs ih => exact ih (s.zeroBuf b)

theorem apply_zeros (s : State) :
    zeros.apply s = { s.zeroBuffers.dropSchedule with olen := 0, gfres := 0, traceCount := 0 } := by
  rw [State.zeroBuffers, foldl_zeroBuf]
  rfl

end Commit

/-- The checks that the AES modes share, KEY_LENGTH and RANGE, and then those of the mode itself (R300). -/
def State.checkMode (s : State) (own : Except ErrCode Unit) : Except ErrCode Unit := do
  s.checkKey
  s.checkData
  own

/-- The same of the XTS commands, which have a key length of their own (R312). -/
def State.checkXts (s : State) (own : Except ErrCode Unit) : Except ErrCode Unit := do
  s.checkXtsKey
  s.checkData
  own

/-- The checks of a command on the length registers, in the order of its rule (R353). -/
def checks (s : State) : Instr → Except ErrCode Unit
  | .keyExpand => s.checkKey
  | .addRoundKey r => do
    s.checkKey
    require (r ≤ nrOf s.keylen.toNat) .range
  | .blockEnc | .blockDec | .blockEncT | .blockDecT => s.checkBlockCommand
  | .ecbEnc => s.checkMode (.ok ())
  | .ecbDec => s.checkMode s.checkBlocks
  | .cbcEnc | .cfbEnc | .cfbDec | .ofbEnc | .ofbDec => s.checkMode s.checkIv
  | .cbcDec => s.checkMode do
    s.checkIv
    s.checkBlocks
  | .ctrEnc | .ctrDec => s.checkMode s.checkNonce
  | .xtsEnc => s.checkXts (.ok ())
  | .xtsDec => s.checkXts s.checkBlocks
  | .gcmEnc | .gcmDec | .gcmDecNv => s.checkGcm
  | .pad | .unpad => s.checkData
  | .gfMul | .clear | .subBytes | .invSubBytes | .shiftRows | .invShiftRows | .mixColumns | .invMixColumns => .ok ()
  | .modeEncUnsupported7 | .modeEncUnsupported8to15 _ | .modeDecUnsupported7 _ | .modeDecUnsupported8to15 _ _ =>
    .error .unsupportedMode

/-- What a command commits once its checks have passed, or the code of a failure that its data cause: INVALID_PADDING or
AUTHENTICATION. -/
def result (s : State) : Instr → Except ErrCode Commit
  | .keyExpand => .ok (.ofKey s.keyBytes)
  | .blockEnc => .ok (.ofOut (encryptBlock s.keyBytes s.blockIn))
  | .blockDec => .ok (.ofOut (decryptBlock s.keyBytes s.blockIn))
  | .blockEncT =>
    .ok (.ofTrace (encryptBlock s.keyBytes s.blockIn) s.keyBytes (encryptTrace s.keyBytes s.blockIn))
  | .blockDecT =>
    .ok (.ofTrace (decryptBlock s.keyBytes s.blockIn) s.keyBytes (decryptTrace s.keyBytes s.blockIn))
  | .ecbEnc => .ok (.ofOut (ecbBlocks (encryptBlock s.keyBytes) (padBytes s.dataIn)))
  | .ecbDec => do
    let out ← unpadBytes (ecbBlocks (decryptBlock s.keyBytes) s.dataIn)
    .ok (.ofOut out)
  | .cbcEnc => .ok (.ofOut (cbcEncBlocks (encryptBlock s.keyBytes) s.ivBytes (blocks (padBytes s.dataIn))))
  | .cbcDec => do
    let out ← unpadBytes (cbcDecBlocks (decryptBlock s.keyBytes) s.ivBytes (blocks s.dataIn))
    .ok (.ofOut out)
  | .ctrEnc | .ctrDec => .ok (.ofOut (ctrStream (encryptBlock s.keyBytes) s.nonce s.dataIn))
  | .cfbEnc => .ok (.ofOut (cfbEncBlocks (encryptBlock s.keyBytes) s.ivBytes (blocks s.dataIn)))
  | .cfbDec => .ok (.ofOut (cfbDecBlocks (encryptBlock s.keyBytes) s.ivBytes (blocks s.dataIn)))
  | .ofbEnc | .ofbDec => .ok (.ofOut (ofbBlocks (encryptBlock s.keyBytes) s.ivBytes (blocks s.dataIn)))
  | .xtsEnc => .ok (.ofOut (xtsBlocks (encryptBlock s.xtsKey1) s.xtsTweaks 0
      (blocks (xtsPad s.params.xtsPadPolicy s.dataIn))))
  | .xtsDec => do
    let out ← xtsUnpad s.params.xtsPadPolicy
      (xtsBlocks (decryptBlock s.xtsKey1) s.xtsTweaks 0 (blocks s.dataIn))
    .ok (.ofOut out)
  | .gcmEnc => .ok (.ofOutTag s.gcmStream (gcmTag s.keyBytes s.dataIn s.aadBytes))
  | .gcmDec => do
    require (gcmTag s.keyBytes s.gcmStream s.aadBytes = s.tagBytes) .authentication
    .ok (.ofOut s.gcmStream)
  | .gcmDecNv => .ok (.ofOut s.gcmStream)
  | .pad => .ok (.ofOut (padBytes s.dataIn))
  | .unpad => do
    let out ← unpadBytes s.dataIn
    .ok (.ofOut out)
  | .gfMul => .ok (.ofGfres (gfMul (s.gfop.extractLsb' 0 8) (s.gfop.extractLsb' 8 8)))
  | .clear => .ok .zeros
  | .subBytes => .ok (.ofState (subBytes s.stateBytes))
  | .invSubBytes => .ok (.ofState (invSubBytes s.stateBytes))
  | .shiftRows => .ok (.ofState (shiftRows s.stateBytes))
  | .invShiftRows => .ok (.ofState (invShiftRows s.stateBytes))
  | .mixColumns => .ok (.ofState (mixColumns s.stateBytes))
  | .invMixColumns => .ok (.ofState (invMixColumns s.stateBytes))
  | .addRoundKey r => .ok (.ofState (addRoundKey s.stateBytes (roundKey (expand s.keyBytes) r)))
  | .modeEncUnsupported7 | .modeEncUnsupported8to15 _ | .modeDecUnsupported7 _ | .modeDecUnsupported8to15 _ _ =>
    .error .unsupportedMode

/-- The outcome of R152, apart from the state that takes the writes. -/
def outcome (s : State) (i : Instr) : Except ErrCode Commit := do
  checks s i
  result s i

@[simp] theorem length_keyBytes (s : State) : s.keyBytes.length = s.keylen.toNat := length_buf ..

/-- A command is its outcome, applied to the state and completed (R152, R153). -/
theorem exec_eq_outcome (i : Instr) (s : State) :
    exec i s = finish s (outcome s i >>= fun c => .ok (c.apply s)) := by
  cases i with
  | gfMul | subBytes | invSubBytes | shiftRows | invShiftRows | mixColumns | invMixColumns
  | modeEncUnsupported7 | modeEncUnsupported8to15 | modeDecUnsupported7 | modeDecUnsupported8to15 => rfl
  | clear => rw [exec, execClear, ← Commit.apply_zeros]; rfl
  | _ =>
    refine congrArg (finish s) ?_
    simp only [outcome, checks, State.checkMode, State.checkXts, result, ctrCommand, ofbCommand, bind_assoc,
      except_ok_bind, Commit.apply_ofOut, Commit.apply_ofOutTag, Commit.apply_ofState, Commit.apply_ofKey,
      Commit.apply_ofTrace, length_keyBytes]

/-- The two ways in which a command ends: its writes applied, or its code alone (R153). -/
theorem exec_outcome_cases {i : Instr} {s t : State} (h : exec i s = .next t) :
    (∃ c, outcome s i = .ok c ∧ t = (c.apply s).completeOk) ∨ ∃ e, outcome s i = .error e ∧ t = s.completeErr e := by
  rw [exec_eq_outcome] at h
  cases ho : outcome s i with
  | ok c =>
    rw [ho] at h
    cases h
    exact .inl ⟨c, rfl, rfl⟩
  | error e =>
    rw [ho] at h
    cases h
    exact .inr ⟨e, rfl, rfl⟩

/-! ### What the checks promise -/

theorem except_seq_eq_ok {α : Type} {x : Except ErrCode Unit} {y : Except ErrCode α} {b : α} :
    (x >>= fun _ => y) = .ok b ↔ x = .ok () ∧ y = .ok b := by
  cases x <;> simp

section
variable {s : State}

theorem aesKeyLength_of_checkKey (h : s.checkKey = .ok ()) : aesKeyLength s.keylen.toNat := require_ok_iff.1 h

theorem dlen_le_of_checkData (h : s.checkData = .ok ()) : s.dlen.toNat ≤ 4096 := require_ok_iff.1 h

theorem aesKeyLength_of_checkBlockCommand (h : s.checkBlockCommand = .ok ()) : aesKeyLength s.keylen.toNat :=
  aesKeyLength_of_checkKey (except_seq_eq_ok.1 h).1

theorem lengths_of_checkMode {own : Except ErrCode Unit} (h : s.checkMode own = .ok ()) :
    aesKeyLength s.keylen.toNat ∧ s.dlen.toNat ≤ 4096 := by
  obtain ⟨hkey, hrest⟩ := except_seq_eq_ok.1 h
  exact ⟨aesKeyLength_of_checkKey hkey, dlen_le_of_checkData (except_seq_eq_ok.1 hrest).1⟩

theorem lengths_of_checkXts {own : Except ErrCode Unit} (h : s.checkXts own = .ok ()) :
    xtsKeyLength s.keylen.toNat ∧ s.dlen.toNat ≤ 4096 := by
  obtain ⟨hkey, hrest⟩ := except_seq_eq_ok.1 h
  exact ⟨require_ok_iff.1 hkey, dlen_le_of_checkData (except_seq_eq_ok.1 hrest).1⟩

theorem lengths_of_checkGcm (h : s.checkGcm = .ok ()) :
    aesKeyLength s.keylen.toNat ∧ s.dlen.toNat ≤ 4096 ∧ s.aadlen.toNat ≤ 256 := by
  obtain ⟨hkey, hrest⟩ := except_seq_eq_ok.1 h
  exact ⟨aesKeyLength_of_checkKey hkey, require_ok_iff.1 (except_seq_eq_ok.1 hrest).1⟩

end

/-! ### The outcome reads the operands alone (R97, R152, R204) -/

theorem checks_congr {s u : State} (h : SameOperands s u) (i : Instr) : checks s i = checks u i := by
  obtain ⟨hkeylen, hivlen, hdlen, haadlen, -⟩ := h
  unfold checks
  simp only [State.checkMode, State.checkXts, State.checkGcm, State.checkBlockCommand, State.checkKey,
    State.checkXtsKey, State.checkData, State.checkDataAad, State.checkIv, State.checkNonce, State.checkOneBlock,
    State.checkBlocks, hkeylen, hivlen, hdlen, haadlen]

section
variable {s u : State} (h : SameOperands s u)
include h

theorem buf_congr (b : Buf) {n : Nat} (hb : ∀ k, k < n → operandOffset (b.base + k)) : s.buf b n = u.buf b n := by
  obtain ⟨-, -, -, -, -, -, -, hbytes⟩ := h
  exact bufFrom_congr fun k hk => hbytes _ (hb k hk)

theorem keyBytes_congr (hk : s.keylen.toNat ≤ 64) : s.keyBytes = u.keyBytes := by
  rw [State.keyBytes, State.keyBytes, ← h.1]
  exact buf_congr h .key fun k hlt => by simp only [Buf.base]; omega

theorem dataIn_congr (hd : s.dlen.toNat ≤ 4096) : s.dataIn = u.dataIn := by
  obtain ⟨-, -, hdlen, -⟩ := id h
  rw [State.dataIn, State.dataIn, ← hdlen]
  exact buf_congr h .din fun k hlt => by simp only [Buf.base]; omega

theorem aadBytes_congr (ha : s.aadlen.toNat ≤ 256) : s.aadBytes = u.aadBytes := by
  obtain ⟨-, -, -, haadlen, -⟩ := id h
  rw [State.aadBytes, State.aadBytes, ← haadlen]
  exact buf_congr h .aad fun k hlt => by simp only [Buf.base]; omega

theorem blockIn_congr : s.blockIn = u.blockIn :=
  buf_congr h .din fun k hlt => by simp only [Buf.base]; omega

theorem ivBytes_congr : s.ivBytes = u.ivBytes :=
  buf_congr h .iv fun k hlt => by simp only [Buf.base]; omega

theorem nonce_congr : s.nonce = u.nonce :=
  buf_congr h .iv fun k hlt => by simp only [Buf.base]; omega

theorem tagBytes_congr : s.tagBytes = u.tagBytes :=
  buf_congr h .tag fun k hlt => by simp only [Buf.base]; omega

theorem stateBytes_congr : s.stateBytes = u.stateBytes :=
  buf_congr h .state fun k hlt => by simp only [Buf.base]; omega

theorem xtsKey1_congr (hk : s.keylen.toNat ≤ 64) : s.xtsKey1 = u.xtsKey1 := by
  rw [State.xtsKey1, State.xtsKey1, ← h.1]
  exact buf_congr h .key fun k hlt => by simp only [Buf.base]; omega

theorem xtsKey2_congr (hk : s.keylen.toNat ≤ 64) : s.xtsKey2 = u.xtsKey2 := by
  obtain ⟨hkeylen, -, -, -, -, -, -, hbytes⟩ := h
  rw [State.xtsKey2, State.xtsKey2, ← hkeylen]
  exact bufFrom_congr fun k hlt => hbytes _ (by simp only [Buf.base]; omega)

theorem gcmStream_congr (hk : s.keylen.toNat ≤ 64) (hd : s.dlen.toNat ≤ 4096) : s.gcmStream = u.gcmStream := by
  rw [State.gcmStream, keyBytes_congr h hk, nonce_congr h, dataIn_congr h hd, State.gcmStream]

theorem xtsTweaks_congr (hk : s.keylen.toNat ≤ 64) : s.xtsTweaks = u.xtsTweaks := by
  have hkey := xtsKey2_congr h hk
  obtain ⟨-, -, -, -, hsector, -, hparams, -⟩ := h
  rw [State.xtsTweaks, hkey, hsector, hparams, State.xtsTweaks]

/-- Once the checks have passed, every buffer is read within its size. -/
theorem result_congr {i : Instr} (hok : checks s i = .ok ()) : result s i = result u i := by
  obtain ⟨-, -, -, -, -, hgfop, hparams, -⟩ := id h
  cases i with
  | keyExpand =>
    have hk := aesKeyLength_of_checkKey hok
    simp only [result, keyBytes_congr h (show s.keylen.toNat ≤ 64 by omega)]
  | addRoundKey r =>
    have hk := aesKeyLength_of_checkKey (except_seq_eq_ok.1 hok).1
    simp only [result, keyBytes_congr h (show s.keylen.toNat ≤ 64 by omega), stateBytes_congr h]
  | blockEnc | blockDec | blockEncT | blockDecT =>
    have hk := aesKeyLength_of_checkBlockCommand hok
    simp only [result, keyBytes_congr h (show s.keylen.toNat ≤ 64 by omega), blockIn_congr h]
  | ecbEnc | ecbDec | cbcEnc | cbcDec | ctrEnc | ctrDec | cfbEnc | cfbDec | ofbEnc | ofbDec =>
    obtain ⟨hk, hd⟩ := lengths_of_checkMode hok
    simp only [result, keyBytes_congr h (show s.keylen.toNat ≤ 64 by omega), dataIn_congr h hd, ivBytes_congr h,
      nonce_congr h]
  | xtsEnc | xtsDec =>
    obtain ⟨hk, hd⟩ := lengths_of_checkXts hok
    have hk64 : s.keylen.toNat ≤ 64 := by omega
    simp only [result, xtsKey1_congr h hk64, xtsTweaks_congr h hk64, dataIn_congr h hd, hparams]
  | gcmEnc | gcmDec | gcmDecNv =>
    obtain ⟨hk, hd, ha⟩ := lengths_of_checkGcm hok
    have hk64 : s.keylen.toNat ≤ 64 := by omega
    simp only [result, gcmStream_congr h hk64 hd, keyBytes_congr h hk64, dataIn_congr h hd, aadBytes_congr h ha,
      tagBytes_congr h]
  | pad | unpad => simp only [result, dataIn_congr h (dlen_le_of_checkData hok)]
  | gfMul => simp only [result, hgfop]
  | subBytes | invSubBytes | shiftRows | invShiftRows | mixColumns | invMixColumns =>
    simp only [result, stateBytes_congr h]
  | clear | modeEncUnsupported7 | modeEncUnsupported8to15 | modeDecUnsupported7 | modeDecUnsupported8to15 => rfl

theorem outcome_congr (i : Instr) : outcome s i = outcome u i := by
  rw [outcome, outcome, ← checks_congr h]
  cases hok : checks s i with
  | ok => exact result_congr h hok
  | error e => rfl

end

/-! ### Lengths of what is committed -/

theorem runSteps_append (ws : List Bytes) (xs ys : List CipherStep) (b : Bytes) :
    runSteps ws (xs ++ ys) b = runSteps ws ys (runSteps ws xs b) := by
  induction xs generalizing b with
  | nil => rfl
  | cons x xs ih => exact ih _

/-- Steps that end by adding a round key leave at most the 16 bytes of that key. -/
theorem length_runSteps_concat_le {key : Bytes} (hk : aesKeyLength key.length) {r : Nat} (hr : r ≤ nrOf key.length)
    (sts : List CipherStep) (b : Bytes) :
    (runSteps (expand key) (sts ++ [⟨r, .addRoundKey⟩]) b).length ≤ 16 := by
  rw [runSteps_append, runSteps, runSteps, CipherStep.apply, addRoundKey, length_xorBytes, length_roundKey hk hr]
  exact Nat.min_le_right ..

theorem length_encryptBlock_le {key : Bytes} (hk : aesKeyLength key.length) (b : Bytes) :
    (encryptBlock key b).length ≤ 16 := by
  have hlast : encSteps (nrOf key.length) =
      ([⟨0, .addRoundKey⟩] ++ (List.range' 1 (nrOf key.length - 1)).flatMap encRound ++
        [⟨nrOf key.length, .subBytes⟩, ⟨nrOf key.length, .shiftRows⟩]) ++ [⟨nrOf key.length, .addRoundKey⟩] := by
    simp [encSteps]
  rw [encryptBlock, hlast]
  exact length_runSteps_concat_le hk le_rfl _ b

theorem length_decryptBlock_le {key : Bytes} (hk : aesKeyLength key.length) (b : Bytes) :
    (decryptBlock key b).length ≤ 16 := by
  have hlast : decSteps (nrOf key.length) =
      ([⟨nrOf key.length, .addRoundKey⟩] ++ (List.range' 1 (nrOf key.length - 1)).reverse.flatMap decRound ++
        [⟨0, .invShiftRows⟩, ⟨0, .invSubBytes⟩]) ++ [⟨0, .addRoundKey⟩] := by
    simp [decSteps]
  rw [decryptBlock, hlast]
  exact length_runSteps_concat_le hk (Nat.zero_le _) _ b

theorem length_xorBytes_le_left {a b : Bytes} {n : Nat} (h : a.length ≤ n) : (xorBytes a b).length ≤ n := by
  rw [length_xorBytes]
  exact min_le_of_left_le h

theorem length_xorBytes_le_right {a b : Bytes} {n : Nat} (h : b.length ≤ n) : (xorBytes a b).length ≤ n := by
  rw [length_xorBytes]
  exact min_le_of_right_le h

/-- The shape of the mode loops: each block gives a piece of at most 16 bytes, whatever `a` the loop carries on. -/
theorem length_le_of_blockwise {σ : Type} {g : σ → List Bytes → Bytes} (hnil : ∀ a, g a [] = [])
    (hcons : ∀ a x xs, ∃ piece a', g a (x :: xs) = piece ++ g a' xs ∧ piece.length ≤ 16) (a : σ) (xs : List Bytes) :
    (g a xs).length ≤ 16 * xs.length := by
  induction xs generalizing a with
  | nil => simp [hnil]
  | cons x xs ih =>
    obtain ⟨piece, a', hg, hpiece⟩ := hcons a x xs
    have htail := ih a'
    rw [hg, List.length_append, List.length_cons]
    omega

section
variable {f : Bytes → Bytes} (hf : ∀ b, (f b).length ≤ 16)
include hf

theorem length_ecbBlocks_le (x : Bytes) : (ecbBlocks f x).length ≤ 16 * (blocks x).length := by
  rw [ecbBlocks, List.length_flatMap, Nat.mul_comm, ← smul_eq_mul, ← List.length_map (f := fun b => (f b).length)]
  exact List.sum_le_card_nsmul _ _ (by simpa using fun b _ => hf b)

theorem length_cbcEncBlocks_le (prev : Bytes) (qs : List Bytes) : (cbcEncBlocks f prev qs).length ≤ 16 * qs.length :=
  length_le_of_blockwise (fun _ => rfl) (fun _ _ _ => ⟨_, _, rfl, hf _⟩) prev qs

theorem length_cbcDecBlocks_le (prev : Bytes) (xs : List Bytes) : (cbcDecBlocks f prev xs).length ≤ 16 * xs.length :=
  length_le_of_blockwise (fun _ => rfl) (fun _ x _ => ⟨_, _, rfl, length_xorBytes_le_left (hf x)⟩) prev xs

theorem length_ctrBlocks_le (nonce : Bytes) (j : Nat) (xs : List Bytes) :
    (ctrBlocks f nonce j xs).length ≤ 16 * xs.length :=
  length_le_of_blockwise (fun _ => rfl) (fun _ _ _ => ⟨_, _, rfl, length_xorBytes_le_right (hf _)⟩) j xs

theorem length_cfbEncBlocks_le (fb : Bytes) (xs : List Bytes) : (cfbEncBlocks f fb xs).length ≤ 16 * xs.length :=
  length_le_of_blockwise (fun _ => rfl) (fun fb _ _ => ⟨_, _, rfl, length_xorBytes_le_right (hf fb)⟩) fb xs

theorem length_cfbDecBlocks_le (fb : Bytes) (xs : List Bytes) : (cfbDecBlocks f fb xs).length ≤ 16 * xs.length :=
  length_le_of_blockwise (fun _ => rfl) (fun fb _ _ => ⟨_, _, rfl, length_xorBytes_le_right (hf fb)⟩) fb xs

theorem length_ofbBlocks_le (fb : Bytes) (xs : List Bytes) : (ofbBlocks f fb xs).length ≤ 16 * xs.length :=
  length_le_of_blockwise (fun _ => rfl) (fun fb _ _ => ⟨_, _, rfl, length_xorBytes_le_right (hf fb)⟩) fb xs

theorem length_xtsBlocks_le (tweak : Nat → Bytes) (j : Nat) (xs : List Bytes) :
    (xtsBlocks f tweak j xs).length ≤ 16 * xs.length :=
  length_le_of_blockwise (fun _ => rfl) (fun _ _ _ => ⟨_, _, rfl, length_xorBytes_le_left (hf _)⟩) j xs

end

theorem length_unpadBytes_le {d out : Bytes} (h : unpadBytes d = .ok out) : out.length ≤ d.length := by
  unfold unpadBytes at h
  split at h
  · cases h
  · dsimp only at h
    split_ifs at h
    cases h
    exact List.length_take_le' ..

theorem length_xtsUnpad_le {policy : XtsPadPolicy} {d out : Bytes} (h : xtsUnpad policy d = .ok out) :
    out.length ≤ d.length := by
  unfold xtsUnpad at h
  split_ifs at h
  · exact length_unpadBytes_le h
  · cases h
    exact le_rfl

theorem length_padBytes_le {d : Bytes} (h : d.length ≤ 4096) : (padBytes d).length ≤ 4112 := by
  rw [length_padBytes, padCount]
  omega

theorem length_xtsPad_le {policy : XtsPadPolicy} {d : Bytes} (h : d.length ≤ 4096) :
    (xtsPad policy d).length ≤ 4112 := by
  unfold xtsPad
  split_ifs
  · exact length_padBytes_le h
  · omega

/-- DOUT holds the blocks of every input that passes the checks, a padded one included (R53). -/
theorem blocks_fit {x : Bytes} (h : x.length ≤ 4112) : 16 * (blocks x).length ≤ 4112 := by
  rw [length_blocks]
  omega

theorem length_state_of_mem_traceSteps {key : Bytes} (hk : aesKeyLength key.length) {sts : List CipherStep} {b : Bytes}
    (hsts : ∀ st ∈ sts, st.round ≤ nrOf key.length) (hb : b.length = 16) :
    ∀ t ∈ traceSteps (expand key) sts b, t.state.length = 16 := by
  induction sts generalizing b with
  | nil => exact fun t ht => absurd ht List.not_mem_nil
  | cons st sts ih =>
    have hst : (st.apply (expand key) b).length = 16 := length_apply hk (hsts st List.mem_cons_self) hb
    intro t ht
    rw [traceSteps, List.mem_cons] at ht
    rcases ht with rfl | ht
    · exact hst
    · exact ih (fun x hx => hsts x (List.mem_cons_of_mem _ hx)) hst t ht

/-- A trace of at most 64 records fills TRACE exactly (R256). -/
theorem length_traceImage {tr : List TraceRecord} (hstate : ∀ t ∈ tr, t.state.length = 16) (hlen : tr.length ≤ 64) :
    (traceImage tr).length = 2048 := by
  have hrecords : (tr.flatMap TraceRecord.bytes).length = 32 * tr.length := by
    have hrecord : ∀ t ∈ tr, t.bytes.length = 32 := fun t ht => by simp [TraceRecord.bytes, hstate t ht]
    rw [List.length_flatMap, List.map_congr_left hrecord]
    simp [Nat.mul_comm]
  rw [traceImage, List.length_append, List.length_replicate, hrecords]
  omega

theorem length_encSteps (nr : Nat) : (encSteps nr).length = 4 * (nr - 1) + 4 := by
  simp only [encSteps, encRound, List.length_append, List.length_flatMap, List.length_cons, List.length_nil,
    List.map_const', List.sum_replicate, List.length_range', smul_eq_mul]
  omega

theorem length_decSteps (nr : Nat) : (decSteps nr).length = 4 * (nr - 1) + 4 := by
  simp only [decSteps, decRound, List.length_append, List.length_flatMap, List.length_cons, List.length_nil,
    List.map_const', List.sum_replicate, List.length_reverse, List.length_range', smul_eq_mul]
  omega

theorem nrOf_le {key : Bytes} (hk : aesKeyLength key.length) : nrOf key.length ≤ 14 := by
  unfold nrOf nkOf
  omega

theorem length_traceImage_encryptTrace {key b : Bytes} (hk : aesKeyLength key.length) (hb : b.length = 16) :
    (traceImage (encryptTrace key b)).length = 2048 := by
  have hnr := nrOf_le hk
  refine length_traceImage (length_state_of_mem_traceSteps hk (encSteps_round_le _) hb) ?_
  rw [encryptTrace, length_traceSteps, length_encSteps]
  omega

theorem length_traceImage_decryptTrace {key b : Bytes} (hk : aesKeyLength key.length) (hb : b.length = 16) :
    (traceImage (decryptTrace key b)).length = 2048 := by
  have hnr := nrOf_le hk
  refine length_traceImage (length_state_of_mem_traceSteps hk (decSteps_round_le _) hb) ?_
  rw [decryptTrace, length_traceSteps, length_decSteps]
  omega

/-! ### Every command commits what `mayWrite` names (R156) -/

/-- A command that writes DOUT writes no STATE, and is none of the three others. -/
theorem writesOut_only {i : Instr} (h : writesOut i = true) :
    writesState i = false ∧ i ≠ .keyExpand ∧ i ≠ .gfMul ∧ i ≠ .clear := by
  refine ⟨?_, ?_, ?_, ?_⟩
  · unfold writesState
    split
    on_goal 8 => rfl
    all_goals cases h
  all_goals
    rintro rfl
    cases h

/-- A command that writes STATE writes nothing else. -/
theorem writesState_only {i : Instr} (h : writesState i = true) :
    writesOut i = false ∧ writesTrace i = false ∧ i ≠ .keyExpand ∧ i ≠ .gcmEnc ∧ i ≠ .gfMul ∧ i ≠ .clear := by
  refine ⟨?_, ?_, ?_, ?_, ?_, ?_⟩
  · exact Bool.eq_false_iff.2 fun hout => by simp [writesOut_only hout] at h
  · unfold writesTrace
    split
    on_goal 3 => rfl
    all_goals cases h
  all_goals
    rintro rfl
    cases h

theorem mayWrite_out {i : Instr} (hout : writesOut i = true) (htrace : writesTrace i = false) (htag : i ≠ .gcmEnc)
    (n a : Nat) : mayWrite i n a ↔ 0x2000 ≤ a ∧ a < 0x2000 + n := by
  obtain ⟨hstate, hkey, -, hclear⟩ := writesOut_only hout
  simp [mayWrite, writesSchedule, hout, htrace, htag, hstate, hkey, hclear]

theorem mayWrite_state {i : Instr} (hstate : writesState i = true) (n a : Nat) :
    mayWrite i n a ↔ 0x0090 ≤ a ∧ a < 0x00A0 := by
  obtain ⟨hout, htrace, hkey, htag, -, hclear⟩ := writesState_only hstate
  simp [mayWrite, writesSchedule, hstate, hout, htrace, hkey, htag, hclear]

theorem mayWrite_traced {i : Instr} (hi : i = .blockEncT ∨ i = .blockDecT) (n a : Nat) :
    mayWrite i n a ↔
      (0x2000 ≤ a ∧ a < 0x2000 + n) ∨ (0x4000 ≤ a ∧ a < 0x4800) ∨ (0x0100 ≤ a ∧ a < 0x01F0) := by
  rcases hi with rfl | rfl <;> simp [mayWrite, writesOut, writesState, writesTrace, writesSchedule]

theorem mayWrite_gcmEnc (n a : Nat) :
    mayWrite .gcmEnc n a ↔ (0x2000 ≤ a ∧ a < 0x2000 + n) ∨ (0x00A0 ≤ a ∧ a < 0x00B0) := by
  simp [mayWrite, writesOut, writesState, writesTrace, writesSchedule]

theorem mayWrite_keyExpand (n a : Nat) : mayWrite .keyExpand n a ↔ 0x0100 ≤ a ∧ a < 0x01F0 := by
  simp [mayWrite, writesOut, writesState, writesTrace, writesSchedule]

/-- The commit writes exactly the registers and the offsets that the claims name for `i`. -/
structure Commit.Fits (c : Commit) (i : Instr) : Prop where
  olen : c.olen.isSome = (writesOut i || i == .clear)
  gfres : c.gfres.isSome = (i == .gfMul || i == .clear)
  traceCount : c.traceCount.isSome = (writesTrace i || i == .clear)
  ksValid : c.ksValid.isSome = (writesSchedule i || i == .clear)
  ksNr : c.ksNr.isSome = (writesSchedule i || i == .clear)
  stores : ∀ (old : BitVec 13) (a : Nat),
    (storedByte c.stores a).isSome = true ↔ inBuffer a ∧ mayWrite i (c.olen.getD old).toNat a

namespace Commit

theorem fits_ofOut {i : Instr} {out : Bytes} (hout : writesOut i = true) (htrace : writesTrace i = false)
    (htag : i ≠ .gcmEnc) (hlen : out.length ≤ 4112) : (ofOut out).Fits i := by
  obtain ⟨hstate, hkey, hgf, hclear⟩ := writesOut_only hout
  constructor
  case stores =>
    intro old a
    simp only [mayWrite_out hout htrace htag, ofOut, isSome_storedByte_cons, isSome_storedByte_nil, or_false, Buf.base,
      inBuffer, Option.getD_some, BitVec.toNat_ofNat]
    omega
  all_goals simp [ofOut, hout, htrace, hkey, hgf, hclear, writesSchedule]

theorem fits_ofState {i : Instr} {b : Bytes} (hstate : writesState i = true) (hlen : b.length = 16) :
    (ofState b).Fits i := by
  obtain ⟨hout, htrace, hkey, htag, hgf, hclear⟩ := writesState_only hstate
  constructor
  case stores =>
    intro old a
    simp only [mayWrite_state hstate, ofState, isSome_storedByte_cons, isSome_storedByte_nil, or_false, Buf.base,
      inBuffer]
    omega
  all_goals simp [ofState, hout, htrace, hkey, hgf, hclear, writesSchedule]

theorem fits_ofTrace {i : Instr} {out key : Bytes} {trace : List TraceRecord} (hi : i = .blockEncT ∨ i = .blockDecT)
    (hlen : out.length ≤ 4112) (hkey : aesKeyLength key.length) (himage : (traceImage trace).length = 2048) :
    (ofTrace out key trace).Fits i := by
  have hschedule := length_scheduleImage hkey
  constructor
  case stores =>
    intro old a
    simp only [mayWrite_traced hi, ofTrace, isSome_storedByte_cons, isSome_storedByte_nil, or_false, Buf.base, inBuffer,
      Option.getD_some, BitVec.toNat_ofNat]
    omega
  all_goals rcases hi with rfl | rfl <;> rfl

theorem fits_ofOutTag {out tag : Bytes} (hlen : out.length ≤ 4112) (htag : tag.length = 16) :
    (ofOutTag out tag).Fits .gcmEnc := by
  constructor
  case stores =>
    intro old a
    simp only [mayWrite_gcmEnc, ofOutTag, ofOut, isSome_storedByte_cons, isSome_storedByte_nil, or_false, Buf.base,
      inBuffer, Option.getD_some, BitVec.toNat_ofNat]
    omega
  all_goals rfl

theorem fits_ofKey {key : Bytes} (hkey : aesKeyLength key.length) : (ofKey key).Fits .keyExpand := by
  have hschedule := length_scheduleImage hkey
  constructor
  case stores =>
    intro old a
    simp only [mayWrite_keyExpand, ofKey, isSome_storedByte_cons, isSome_storedByte_nil, or_false, Buf.base, inBuffer]
    omega
  all_goals rfl

theorem fits_ofGfres (b : Byte) : (ofGfres b).Fits .gfMul := by
  constructor
  case stores => simp [ofGfres, storedByte, mayWrite, writesOut, writesState, writesTrace, writesSchedule]
  all_goals rfl

theorem exists_buf_iff_inBuffer {a : Nat} : (∃ b ∈ Buf.all, b.base ≤ a ∧ a < b.base + b.size) ↔ inBuffer a := by
  rw [Buf.all]
  simp only [List.exists_mem_cons_iff, List.not_mem_nil, false_and, exists_false, or_false, Buf.base, Buf.size,
    inBuffer]
  omega

theorem isSome_storedByte_zeros {a : Nat} : (storedByte zeros.stores a).isSome = true ↔ inBuffer a := by
  rw [← exists_buf_iff_inBuffer]
  simp [isSome_storedByte, zeros]

theorem eq_zero_of_storedByte_zeros {a : Nat} {x : Byte} (h : storedByte zeros.stores a = some x) : x = 0 := by
  obtain ⟨w, hw, hx⟩ := mem_of_storedByte h
  obtain ⟨b, -, rfl⟩ := List.mem_map.1 hw
  exact List.eq_of_mem_replicate hx

theorem fits_zeros : zeros.Fits .clear := by
  constructor
  case stores => simp [isSome_storedByte_zeros, mayWrite]
  all_goals rfl

end Commit

@[simp] theorem length_dataIn (s : State) : s.dataIn.length = s.dlen.toNat := length_buf ..

@[simp] theorem length_blockIn (s : State) : s.blockIn.length = 16 := length_buf ..

@[simp] theorem length_stateBytes (s : State) : s.stateBytes.length = 16 := length_buf ..

section
variable {s : State}

theorem length_gcmStream_le (hk : aesKeyLength s.keylen.toNat) (hd : s.dlen.toNat ≤ 4096) :
    s.gcmStream.length ≤ 4112 :=
  (length_ctrBlocks_le (length_encryptBlock_le (by simpa using hk)) ..).trans
    (blocks_fit (by rw [length_dataIn]; omega))

theorem blockResult_fits {i : Instr} {c : Commit} (hi : i = .blockEnc ∨ i = .blockDec ∨ i = .blockEncT ∨ i = .blockDecT)
    (hkeylen : aesKeyLength s.keylen.toNat) (h : result s i = .ok c) : c.Fits i := by
  have hk : aesKeyLength s.keyBytes.length := by simpa using hkeylen
  have hE : (encryptBlock s.keyBytes s.blockIn).length ≤ 4112 := (length_encryptBlock_le hk _).trans (by decide)
  have hD : (decryptBlock s.keyBytes s.blockIn).length ≤ 4112 := (length_decryptBlock_le hk _).trans (by decide)
  rcases hi with rfl | rfl | rfl | rfl
  all_goals cases h
  · exact Commit.fits_ofOut rfl rfl nofun hE
  · exact Commit.fits_ofOut rfl rfl nofun hD
  · exact Commit.fits_ofTrace (.inl rfl) hE hk (length_traceImage_encryptTrace hk (length_blockIn s))
  · exact Commit.fits_ofTrace (.inr rfl) hD hk (length_traceImage_decryptTrace hk (length_blockIn s))

theorem modeResult_fits {i : Instr} {c : Commit}
    (hi : i ∈ [Instr.ecbEnc, .ecbDec, .cbcEnc, .cbcDec, .ctrEnc, .ctrDec, .cfbEnc, .cfbDec, .ofbEnc, .ofbDec])
    (hkeylen : aesKeyLength s.keylen.toNat) (hd : s.dlen.toNat ≤ 4096) (h : result s i = .ok c) : c.Fits i := by
  have hE := length_encryptBlock_le (key := s.keyBytes) (by simpa using hkeylen)
  have hD := length_decryptBlock_le (key := s.keyBytes) (by simpa using hkeylen)
  have hdata := blocks_fit (x := s.dataIn) (by rw [length_dataIn]; omega)
  have hpadded := blocks_fit (length_padBytes_le (d := s.dataIn) (by simpa using hd))
  cases i
  case ecbEnc =>
    cases h
    exact Commit.fits_ofOut rfl rfl nofun ((length_ecbBlocks_le hE _).trans hpadded)
  case ecbDec =>
    obtain ⟨out, hout, ⟨⟩⟩ := except_bind_ok h
    exact Commit.fits_ofOut rfl rfl nofun
      ((length_unpadBytes_le hout).trans ((length_ecbBlocks_le hD _).trans hdata))
  case cbcEnc =>
    cases h
    exact Commit.fits_ofOut rfl rfl nofun ((length_cbcEncBlocks_le hE ..).trans hpadded)
  case cbcDec =>
    obtain ⟨out, hout, ⟨⟩⟩ := except_bind_ok h
    exact Commit.fits_ofOut rfl rfl nofun
      ((length_unpadBytes_le hout).trans ((length_cbcDecBlocks_le hD ..).trans hdata))
  case ctrEnc | ctrDec =>
    cases h
    exact Commit.fits_ofOut rfl rfl nofun ((length_ctrBlocks_le hE ..).trans hdata)
  case cfbEnc =>
    cases h
    exact Commit.fits_ofOut rfl rfl nofun ((length_cfbEncBlocks_le hE ..).trans hdata)
  case cfbDec =>
    cases h
    exact Commit.fits_ofOut rfl rfl nofun ((length_cfbDecBlocks_le hE ..).trans hdata)
  case ofbEnc | ofbDec =>
    cases h
    exact Commit.fits_ofOut rfl rfl nofun ((length_ofbBlocks_le hE ..).trans hdata)
  all_goals exact absurd hi (by simp)

theorem xtsResult_fits {i : Instr} {c : Commit} (hi : i = .xtsEnc ∨ i = .xtsDec) (hkeylen : xtsKeyLength s.keylen.toNat)
    (hd : s.dlen.toNat ≤ 4096) (h : result s i = .ok c) : c.Fits i := by
  have hk : aesKeyLength s.xtsKey1.length := by
    rw [State.xtsKey1, length_buf]
    omega
  rcases hi with rfl | rfl
  · cases h
    exact Commit.fits_ofOut rfl rfl nofun
      ((length_xtsBlocks_le (length_encryptBlock_le hk) ..).trans (blocks_fit (length_xtsPad_le (by simpa using hd))))
  · obtain ⟨out, hout, ⟨⟩⟩ := except_bind_ok h
    exact Commit.fits_ofOut rfl rfl nofun ((length_xtsUnpad_le hout).trans
      ((length_xtsBlocks_le (length_decryptBlock_le hk) ..).trans (blocks_fit (by rw [length_dataIn]; omega))))

theorem gcmResult_fits {i : Instr} {c : Commit} (hi : i = .gcmEnc ∨ i = .gcmDec ∨ i = .gcmDecNv)
    (hk : aesKeyLength s.keylen.toNat) (hd : s.dlen.toNat ≤ 4096) (h : result s i = .ok c) : c.Fits i := by
  have hlen := length_gcmStream_le hk hd
  rcases hi with rfl | rfl | rfl
  · cases h
    exact Commit.fits_ofOutTag hlen (by simp [gcmTag])
  · obtain ⟨-, h⟩ := except_seq_eq_ok.1 h
    cases h
    exact Commit.fits_ofOut rfl rfl nofun hlen
  · cases h
    exact Commit.fits_ofOut rfl rfl nofun hlen

end

theorem result_fits {s : State} {i : Instr} {c : Commit} (hok : checks s i = .ok ()) (h : result s i = .ok c) :
    c.Fits i := by
  cases i
  case keyExpand =>
    cases h
    exact Commit.fits_ofKey (by simpa using aesKeyLength_of_checkKey hok)
  case addRoundKey r =>
    obtain ⟨hkey, hround⟩ := except_seq_eq_ok.1 hok
    have hk : aesKeyLength s.keyBytes.length := by simpa using aesKeyLength_of_checkKey hkey
    have hr : r ≤ nrOf s.keyBytes.length := by simpa using require_ok_iff.1 hround
    cases h
    exact Commit.fits_ofState rfl (by simp [addRoundKey, length_roundKey hk hr])
  case blockEnc | blockDec | blockEncT | blockDecT =>
    exact blockResult_fits (by simp) (aesKeyLength_of_checkBlockCommand hok) h
  case ecbEnc | ecbDec | cbcEnc | cbcDec | ctrEnc | ctrDec | cfbEnc | cfbDec | ofbEnc | ofbDec =>
    obtain ⟨hk, hd⟩ := lengths_of_checkMode hok
    exact modeResult_fits (by simp) hk hd h
  case xtsEnc | xtsDec =>
    obtain ⟨hk, hd⟩ := lengths_of_checkXts hok
    exact xtsResult_fits (by simp) hk hd h
  case gcmEnc | gcmDec | gcmDecNv =>
    obtain ⟨hk, hd, -⟩ := lengths_of_checkGcm hok
    exact gcmResult_fits (by simp) hk hd h
  case pad =>
    cases h
    exact Commit.fits_ofOut rfl rfl nofun (length_padBytes_le (by simpa using dlen_le_of_checkData hok))
  case unpad =>
    have hd := dlen_le_of_checkData hok
    obtain ⟨out, hout, ⟨⟩⟩ := except_bind_ok h
    have hlen : out.length ≤ s.dlen.toNat := by simpa using length_unpadBytes_le hout
    exact Commit.fits_ofOut rfl rfl nofun (by omega)
  case gfMul =>
    cases h
    exact Commit.fits_ofGfres _
  case clear =>
    cases h
    exact Commit.fits_zeros
  case mixColumns =>
    cases h
    exact Commit.fits_ofState rfl (length_mixColumns (length_stateBytes s))
  case invMixColumns =>
    cases h
    exact Commit.fits_ofState rfl (length_invMixColumns (length_stateBytes s))
  case subBytes | invSubBytes | shiftRows | invShiftRows =>
    cases h
    exact Commit.fits_ofState rfl (by simp)
  case modeEncUnsupported7 | modeEncUnsupported8to15 | modeDecUnsupported7 | modeDecUnsupported8to15 => cases h

theorem outcome_fits {s : State} {i : Instr} {c : Commit} (h : outcome s i = .ok c) : c.Fits i := by
  obtain ⟨hok, hresult⟩ := except_seq_eq_ok.1 h
  exact result_fits hok hresult

theorem getD_congr {α : Type} {o : Option α} {a b : α} (h : o.isSome = true) : o.getD a = o.getD b := by
  cases o with
  | none => cases h
  | some x => rfl

theorem getD_of_not_isSome {α : Type} {o : Option α} {a : α} (h : ¬ o.isSome = true) : o.getD a = a := by
  rw [Option.not_isSome_iff_eq_none.1 h, Option.getD_none]

/-! ### The life cycle (R150, R153, R381) -/

theorem statusWord_busy (s : State) : s.statusWord.getLsbD 0 = s.busy := by
  simp [State.statusWord, bitAt]

/-- A completion leaves nothing pending (R153). -/
theorem completeWord_pending {w : Word} {s t : State} (h : completeWord w s = .next t) : t.pending = none := by
  cases hdecode : decode w with
  | ok i =>
    rw [completeWord_ok hdecode] at h
    rcases exec_cases h with ⟨u, rfl⟩ | ⟨e, rfl⟩ <;> rfl
  | error e =>
    rw [completeWord_error hdecode] at h
    cases h
    rfl

theorem alignedWrite_pending_busy {s : State} {o : Nat} {z : AccessSize} (v : Word) (hb : s.busy = true) :
    (s.alignedWrite o z v).pending = s.pending := by
  cases ho : writableWhileBusy o with
  | false => rw [alignedWrite_busy z v hb ho]
  | true =>
    have hcmd : ¬ (0x000C ≤ o ∧ o < 0x0010) := fun h => by
      simp [writableWhileBusy_eq_false (.inr (.inl h))] at ho
    rw [State.alignedWrite, if_neg (by simp [ho]), if_neg hcmd]
    exact (writeBytes_keeps ..).1

theorem hostWrite_pending_busy {s : State} {o : BitVec 15} {z : AccessSize} (v : Word) (hb : s.busy = true) :
    (s.hostWrite o z v).pending = s.pending := by
  by_cases ha : o.toNat % z.bytes = 0
  · rw [hostWrite_aligned s v ha, State.respond_pending, alignedWrite_pending_busy v hb]
  · rw [hostWrite_misaligned s v ha, State.respond_pending]

/-- A step of a busy engine keeps the pending word, completes it, or is a reset (R150). -/
theorem step_pending_busy {s t : State} {w : Word} (hw : s.pending = some w) (ht : step s = .next t) :
    t.pending = some w ∨ (t.pending = none ∧ (enginesTurn s ∨ ∃ rest, nextIs s .reset rest)) := by
  rcases step_cases ht with ⟨hs, hturn⟩ | ⟨e, rest, hs, he⟩
  · rw [engineTurn_pending hw] at hturn
    exact .inr ⟨completeWord_pending hturn, .inl (.inl hs)⟩
  · have hw' : State.pending { s with schedule := rest } = some w := hw
    cases e with
    | hostRead o z =>
      obtain ⟨r, d, hread⟩ := hostRead_eq { s with schedule := rest } o z
      rw [eventStep_hostRead, hread] at he
      cases he
      exact .inl hw
    | hostWrite o z v =>
      cases he
      exact .inl ((hostWrite_pending_busy v (busy_eq_true (by simp [hw]))).trans hw')
    | engine =>
      rw [eventStep_engine, engineTurn_pending hw'] at he
      exact .inr ⟨completeWord_pending he, .inl (.inr ⟨rest, hs⟩)⟩
    | reset =>
      cases he
      exact .inr ⟨rfl, .inr ⟨rest, hs⟩⟩

/-! ### The statements of 40_command_protocol.md -/

/-- Settles O27: the outcome is the same on both states, and it alone says what is written. -/
theorem outcomeDependsOnOperandsAlone : Obligations.OutcomeDependsOnOperandsAlone := by
  intro i s u s' u' hsame hs hu
  have hout := outcome_congr hsame i
  rcases exec_outcome_cases hs with ⟨c, hc, rfl⟩ | ⟨e, he, rfl⟩
  · rcases exec_outcome_cases hu with ⟨d, hd, rfl⟩ | ⟨e, he, rfl⟩
    · obtain rfl : c = d := Except.ok.inj (hc.symm.trans (hout.trans hd))
      have hfits := outcome_fits hc
      refine ⟨rfl, fun _ => ⟨fun hi => ?_, fun hi => ?_, fun hi => ⟨?_, ?_⟩, fun hi => ?_, fun a hbuf hmay => ?_⟩⟩
      · exact getD_congr (by simp [hfits.olen, hi])
      · exact getD_congr (by simp [hfits.traceCount, hi])
      · exact getD_congr (by simp [hfits.ksValid, hi])
      · exact getD_congr (by simp [hfits.ksNr, hi])
      · exact getD_congr (by simp [hfits.gfres, hi])
      · rw [byteAt_completeOk, byteAt_completeOk, Commit.byteAt_apply, Commit.byteAt_apply]
        exact getD_congr ((hfits.stores s.olen a).2 ⟨hbuf, hmay⟩)
    · cases hc.symm.trans (hout.trans he)
  · rcases exec_outcome_cases hu with ⟨d, hd, rfl⟩ | ⟨e', he', rfl⟩
    · cases he.symm.trans (hout.trans hd)
    · cases he.symm.trans (hout.trans he')
      exact ⟨rfl, fun h => by cases h⟩

/-- Settles O26: a command that fails writes nothing, and the writes of one that succeeds are those `mayWrite` names. -/
theorem commandsWriteOnlyTheirLocations : Obligations.CommandsWriteOnlyTheirLocations := by
  intro i s t h
  rcases exec_outcome_cases h with ⟨c, hc, rfl⟩ | ⟨e, -, rfl⟩
  · have hfits := outcome_fits hc
    refine ⟨fun a hnot => ?_, fun hi hclear => ?_, fun hi hclear => ?_, fun hi hclear => ?_,
      fun hi hclear => ⟨?_, ?_⟩, rfl⟩
    · rw [byteAt_completeOk, Commit.byteAt_apply]
      exact getD_of_not_isSome fun hsome => hnot ((hfits.stores s.olen a).1 hsome).2
    · exact getD_of_not_isSome (by simp [hfits.olen, hi, hclear])
    · exact getD_of_not_isSome (by simp [hfits.gfres, hi, hclear])
    · exact getD_of_not_isSome (by simp [hfits.traceCount, hi, hclear])
    · exact getD_of_not_isSome (by simp [hfits.ksValid, hi, hclear])
    · exact getD_of_not_isSome (by simp [hfits.ksNr, hi, hclear])
  · exact ⟨fun _ _ => rfl, fun _ _ => rfl, fun _ _ => rfl, fun _ _ => rfl, fun _ _ => ⟨rfl, rfl⟩, rfl⟩

/-- Settles O58: every buffer offset takes a zero, and no other offset is reached. -/
theorem clearCommand : Obligations.ClearCommand := by
  refine ⟨decodeOfEncode .clear rfl, fun s => ⟨(Commit.zeros.apply s).completeOk, exec_eq_outcome .clear s, rfl,
    fun a => ?_⟩⟩
  rw [byteAt_completeOk, Commit.byteAt_apply]
  refine ⟨fun hbuf => ?_, fun hbuf => getD_of_not_isSome fun hsome => hbuf (Commit.isSome_storedByte_zeros.1 hsome)⟩
  obtain ⟨x, hx⟩ := Option.isSome_iff_exists.1 (Commit.isSome_storedByte_zeros.2 hbuf)
  rw [hx, Option.getD_some]
  exact Commit.eq_zero_of_storedByte_zeros hx

/-- Settles O8: the write is an acceptance while idle and dropped while busy. -/
theorem acceptanceOfACommand : Obligations.AcceptanceOfACommand := by
  intro s w rest hnext
  refine ⟨fun hidle => ⟨.ack, ?_⟩, fun hbusy => ⟨_, step_write_dropped hnext hbusy (by decide) (by decide)⟩⟩
  have hb : State.busy { s with schedule := rest } = false := busy_eq_false hidle
  rw [step_hostWrite hnext, hostWrite_aligned _ w (by decide)]
  exact congrArg (fun u => Host.Outcome.next (State.respond u .ack)) (alignedWrite_cmd w hb)

/-- Settles O9: BUSY is whether a word is pending; `step_submits` gives the one way out of idle, `step_pending_busy` the
two ways out of busy. -/
theorem busyFollowsTheLifeCycle : Obligations.BusyFollowsTheLifeCycle := by
  refine ⟨fun s => ?_, fun s t ht => ⟨fun hidle => ?_, fun w hw => step_pending_busy hw ht⟩⟩
  · rw [statusWord_busy]
    cases hp : s.pending with
    | none => exact .inl ⟨rfl, busy_eq_false hp⟩
    | some w => exact .inr ⟨w, rfl, busy_eq_true (by simp [hp])⟩
  · cases hp : t.pending with
    | none => exact .inl rfl
    | some w =>
      obtain ⟨rest, hnext⟩ := step_submits hidle ht hp
      exact .inr ⟨w, rest, hnext, rfl⟩

end Sys2Proof.Machine
end

section
/-! PROOFS. Family 41_constants_gf.md: the multiplier of GF(2^8) and GF_MUL. -/

namespace Sys2Proof.Machine

open Sys2Proof Sys2Proof.Claims

/-! ### XOR of bytes -/

theorem xor_xor_xor_comm (a b c d : Byte) : a ^^^ b ^^^ (c ^^^ d) = a ^^^ c ^^^ (b ^^^ d) := by
  ac_rfl

/-- The product of a bit and a byte is additive in the bit. -/
theorem ite_xor_bit (p q : Bool) (a : Byte) :
    (if (p ^^ q) = true then a else 0) = (if p = true then a else 0) ^^^ (if q = true then a else 0) := by
  cases p <;> cases q <;> simp

/-- The product of a bit and a byte is additive in the byte. -/
theorem ite_xor_byte (p : Bool) (a b : Byte) :
    (if p = true then a ^^^ b else 0) = (if p = true then a else 0) ^^^ (if p = true then b else 0) := by
  cases p <;> simp

/-- One more low bit of a byte adds its power of two, or nothing: bit `n` is that of the power, every other bit `i` is
below `n + 1` exactly when it is below `n`. -/
theorem setWidth_low_succ (b : Byte) (n : Nat) :
    (b.setWidth (n + 1)).setWidth 8 =
      (b.setWidth n).setWidth 8 ^^^ (if b.getLsbD n = true then BitVec.twoPow 8 n else 0) := by
  refine BitVec.eq_of_getLsbD_eq fun i hi => ?_
  rcases eq_or_ne i n with rfl | hin
  · rw [BitVec.getLsbD_eq_getElem hi]
    cases hb : b[i] <;> simp [hb, hi]
  · have hlow : i < n + 1 ↔ i < n := by omega
    cases b.getLsbD n <;> simp [hin.symm, hlow]

/-- A property that XOR keeps holds of every byte once it holds of the powers of x: they are a basis of GF(2^8) over
GF(2). -/
theorem byte_basis_induction {P : Byte → Prop} (hxor : ∀ a b, P a → P b → P (a ^^^ b))
    (hbasis : ∀ i < 8, P (BitVec.twoPow 8 i)) (b : Byte) : P b := by
  have hzero : P 0 := by
    have h := hxor _ _ (hbasis 0 (by decide)) (hbasis 0 (by decide))
    rwa [BitVec.xor_self] at h
  have hlow : ∀ n ≤ 8, P ((b.setWidth n).setWidth 8) := by
    intro n hn
    induction n with
    | zero => rwa [BitVec.eq_nil (b.setWidth 0)]
    | succ n ih =>
      rw [setWidth_low_succ]
      refine hxor _ _ (ih (by omega)) ?_
      split
      · exact hbasis n (by omega)
      · exact hzero
  simpa using hlow 8 le_rfl

/-! ### Multiplication by x -/

theorem xtime_eq (a : Byte) : xtime a = a <<< 1 ^^^ (if a.getLsbD 7 = true then 0x1B else 0) := by
  unfold xtime
  split <;> simp

theorem xtime_xor (a b : Byte) : xtime (a ^^^ b) = xtime a ^^^ xtime b := by
  rw [xtime_eq, xtime_eq, xtime_eq, BitVec.getLsbD_xor, BitVec.shiftLeft_xor_distrib, ite_xor_bit, xor_xor_xor_comm]

/-- Below x^8 the powers of x are the powers of two. -/
theorem twoPow_eq_iterate_xtime : ∀ i < 8, BitVec.twoPow 8 i = xtime^[i] 1 := by decide

/-! ### The loop of R185 is linear in each factor -/

theorem gfMulLoop_succ (n : Nat) (p a b : Byte) :
    gfMulLoop (n + 1) p a b = gfMulLoop n (p ^^^ (if b.getLsbD 0 = true then a else 0)) (xtime a) (b >>> 1) := by
  rw [gfMulLoop]
  split <;> simp

theorem gfMulLoop_xor_left (n : Nat) (p q a b c : Byte) :
    gfMulLoop n (p ^^^ q) (a ^^^ b) c = gfMulLoop n p a c ^^^ gfMulLoop n q b c := by
  induction n generalizing p q a b c with
  | zero => rfl
  | succ n ih =>
    rw [gfMulLoop_succ, gfMulLoop_succ, gfMulLoop_succ, ite_xor_byte, xor_xor_xor_comm, xtime_xor, ih]

theorem gfMulLoop_xor_right (n : Nat) (p q a b c : Byte) :
    gfMulLoop n (p ^^^ q) a (b ^^^ c) = gfMulLoop n p a b ^^^ gfMulLoop n q a c := by
  induction n generalizing p q a b c with
  | zero => rfl
  | succ n ih =>
    rw [gfMulLoop_succ, gfMulLoop_succ, gfMulLoop_succ, BitVec.getLsbD_xor, ite_xor_bit, xor_xor_xor_comm,
      BitVec.ushiftRight_xor_distrib, ih]

theorem gfMulLoop_xtime (n : Nat) (p a b : Byte) :
    gfMulLoop n (xtime p) (xtime a) b = xtime (gfMulLoop n p a b) := by
  induction n generalizing p a b with
  | zero => rfl
  | succ n ih =>
    have hacc : xtime p ^^^ (if b.getLsbD 0 = true then xtime a else 0) =
        xtime (p ^^^ (if b.getLsbD 0 = true then a else 0)) := by
      rw [xtime_xor, apply_ite xtime]
      rfl
    rw [gfMulLoop_succ, gfMulLoop_succ, hacc, ih]

/-! ### The product -/

theorem gfMul_xor_left (a b c : Byte) : gfMul (a ^^^ b) c = gfMul a c ^^^ gfMul b c := gfMulLoop_xor_left 8 0 0 a b c

theorem gfMul_xor_right (a b c : Byte) : gfMul a (b ^^^ c) = gfMul a b ^^^ gfMul a c := gfMulLoop_xor_right 8 0 0 a b c

@[simp] theorem gfMul_zero_left (b : Byte) : gfMul 0 b = 0 := by
  have h : gfMul (0 ^^^ 0) b = gfMul 0 b ^^^ gfMul 0 b := gfMul_xor_left 0 0 b
  rwa [BitVec.xor_self, BitVec.xor_self] at h

theorem gfMul_xtime_left (a b : Byte) : gfMul (xtime a) b = xtime (gfMul a b) := gfMulLoop_xtime 8 0 a b

@[simp] theorem gfMul_one_left (b : Byte) : gfMul 1 b = b := by
  induction b using byte_basis_induction with
  | hxor a b ha hb => rw [gfMul_xor_right, ha, hb]
  | hbasis i hi => exact (by decide : ∀ i < 8, gfMul 1 (BitVec.twoPow 8 i) = BitVec.twoPow 8 i) i hi

theorem gfMul_twoPow_left {i : Nat} (hi : i < 8) (b : Byte) : gfMul (BitVec.twoPow 8 i) b = xtime^[i] b := by
  have hcomm : gfMul (xtime^[i] 1) b = xtime^[i] (gfMul 1 b) :=
    Function.Semiconj.iterate_right (f := (gfMul · b)) (fun a => gfMul_xtime_left a b) i 1
  rw [twoPow_eq_iterate_xtime i hi, hcomm, gfMul_one_left]

/-- The loop doubles its first factor up to the one bit of the second. -/
theorem gfMul_twoPow_right {i : Nat} (hi : i < 8) (a : Byte) : gfMul a (BitVec.twoPow 8 i) = xtime^[i] a := by
  interval_cases i <;> simp [gfMul, gfMulLoop]

theorem gfMul_comm (a b : Byte) : gfMul a b = gfMul b a := by
  induction b using byte_basis_induction with
  | hxor b c hb hc => rw [gfMul_xor_right, gfMul_xor_left, hb, hc]
  | hbasis i hi => rw [gfMul_twoPow_right hi, gfMul_twoPow_left hi]

theorem gfMul_xtime_right (a b : Byte) : gfMul a (xtime b) = xtime (gfMul a b) := by
  rw [gfMul_comm, gfMul_xtime_left, gfMul_comm]

@[simp] theorem gfMul_two_left (b : Byte) : gfMul 2 b = xtime b := by
  have h : gfMul (xtime 1) b = xtime (gfMul 1 b) := gfMul_xtime_left 1 b
  rwa [gfMul_one_left] at h

theorem exec_gfMul (s : State) :
    exec .gfMul s =
      .next { s with gfres := gfMul (s.gfop.extractLsb' 0 8) (s.gfop.extractLsb' 8 8) }.completeOk := rfl

/-! ### The statements of 41_constants_gf.md -/

/-- Settles O29: the loop is linear in each factor and commutes with multiplication by x, so that the powers of x, a
basis, decide the rest. -/
theorem gfMulIsTheFieldProduct : Obligations.GfMulIsTheFieldProduct := by
  refine ⟨fun a b c => ⟨gfMul_comm a b, gfMul_xor_right a b c, gfMul_zero_left b, gfMul_one_left b, gfMul_two_left b,
    ?_⟩, by decide, by decide⟩
  rw [gfMul_two_left, gfMul_two_left, gfMul_xtime_right]

/-- Settles O28: the command is one successful completion that writes GFRES, and no register write moves a byte. -/
theorem gfMulCommand : Obligations.GfMulCommand :=
  ⟨decodeOfEncode .gfMul rfl, fun s => ⟨_, exec_gfMul s, rfl, fun a =>
    (byteAt_completeOk _ a).trans (byteAt_of_mem_eq rfl rfl a)⟩⟩

end Sys2Proof.Machine
end

section
/-! PROOFS. Family 42_key_schedule.md: the words of a schedule, and KEY_EXPAND. -/

namespace Sys2Proof.Machine

open Sys2Proof Sys2Proof.Claims

/-! ### One byte of the words of R202 -/

theorem nth_xorBytes {a b : Bytes} {k : Nat} (ha : k < a.length) (hb : k < b.length) :
    nth (xorBytes a b) k = nth a k ^^^ nth b k := by
  simp [nth, xorBytes, ha, hb]

theorem nth_subWord {t : Bytes} {k : Nat} (hk : k < t.length) : nth (subWord t) k = sbox (nth t k) := by
  simp [nth, subWord, hk]

theorem nth_rotWord {t : Bytes} {k : Nat} (hk : k < t.length) : nth (rotWord t) k = nth t ((k + 1) % t.length) := by
  cases t with
  | nil => cases hk
  | cons b rest =>
    rcases Nat.lt_or_eq_of_le (Nat.le_of_lt_succ hk) with hlt | rfl
    · have hmod : (k + 1) % (rest.length + 1) = k + 1 := Nat.mod_eq_of_lt (by omega)
      simp [nth, rotWord, hlt, hmod, List.getElem?_append_left]
    · simp [nth, rotWord]

theorem nth_xorFirst {c : Byte} {t : Bytes} {k : Nat} (hk : k < t.length) :
    nth (xorFirst c t) k = nth t k ^^^ (if k = 0 then c else 0) := by
  cases t with
  | nil => cases hk
  | cons b rest => cases k <;> simp [nth, xorFirst]

/-- The recurrence of R202, byte by byte, on the words so far. -/
theorem nth_nextWord {nk : Nat} {ws : List Bytes} (hnk : 0 < nk) (hlen : nk ≤ ws.length)
    (hw : ∀ w ∈ ws, w.length = 4) {k : Nat} (hk : k < 4) :
    nth (nextWord nk ws) k =
      nth (ws.getD (ws.length - nk) []) k ^^^
        (if ws.length % nk = 0 then
          sbox (nth (ws.getD (ws.length - 1) []) ((k + 1) % 4)) ^^^ (if k = 0 then rcon (ws.length / nk - 1) else 0)
        else if nk > 6 ∧ ws.length % nk = 4 then sbox (nth (ws.getD (ws.length - 1) []) k)
        else nth (ws.getD (ws.length - 1) []) k) := by
  have hword : ∀ i < ws.length, (ws.getD i []).length = 4 := fun i hi => by
    rw [List.getD_eq_getElem _ _ hi]
    exact hw _ (List.getElem_mem hi)
  have hprev := hword (ws.length - 1) (by omega)
  have hback := hword (ws.length - nk) (by omega)
  rw [nextWord]
  generalize ws.getD (ws.length - 1) [] = prev at hprev ⊢
  generalize ws.getD (ws.length - nk) [] = back at hback ⊢
  rw [BitVec.xor_comm (nth back k)]
  split
  · rw [nth_xorBytes (by simp [hprev, hk]) (by rwa [hback]), nth_xorFirst (by simp [hprev, hk]),
      nth_subWord (by simp [hprev, hk]), nth_rotWord (by rwa [hprev]), hprev]
  · split
    · rw [nth_xorBytes (by simp [hprev, hk]) (by rwa [hback]), nth_subWord (by rwa [hprev])]
    · rw [nth_xorBytes (by rwa [hprev]) (by rwa [hback])]

/-! ### The words of a schedule -/

theorem prefix_expandLoop (nk n : Nat) (ws : List Bytes) : ws <+: expandLoop nk n ws := by
  induction n generalizing ws with
  | zero => exact List.prefix_rfl
  | succ n ih => exact (List.prefix_append ws [nextWord nk ws]).trans (ih _)

/-- Every word that the loop adds is the next word of those before it. -/
theorem getD_expandLoop {nk n i : Nat} {ws : List Bytes} (hlo : ws.length ≤ i) (hhi : i < ws.length + n) :
    (expandLoop nk n ws).getD i [] = nextWord nk ((expandLoop nk n ws).take i) := by
  induction n generalizing ws with
  | zero => omega
  | succ n ih =>
    rw [expandLoop]
    rcases Nat.lt_or_eq_of_le hlo with hlt | rfl
    · exact ih (by simpa using hlt) (by simp; omega)
    · obtain ⟨tail, htail⟩ := prefix_expandLoop nk n (ws ++ [nextWord nk ws])
      rw [← htail]
      simp

section
variable {key : Bytes} (hkey : aesKeyLength key.length)
include hkey

theorem four_le_nkOf : 4 ≤ nkOf key.length := by
  unfold nkOf
  omega

/-- The first words are the key (R202, R206). -/
theorem scheduleByte_of_lt_nkOf {i k : Nat} (hi : i < nkOf key.length) (hk : k < 4) :
    scheduleByte key i k = nth key (4 * i + k) := by
  have hlen := (keyWords_spec hkey).1
  obtain ⟨tail, htail⟩ :=
    prefix_expandLoop (nkOf key.length) (4 * (nrOf key.length + 1) - nkOf key.length) (keyWords key)
  rw [scheduleByte, expand, ← htail, List.getD_append _ _ _ _ (by omega)]
  simp [keyWords, nth, hi, hk, List.getD_eq_getElem?_getD]

/-- Every later word is the next word of those before it (R202). -/
theorem getD_expand_of_nkOf_le {i : Nat} (hlo : nkOf key.length ≤ i) (hhi : i < (expand key).length) :
    (expand key).getD i [] = nextWord (nkOf key.length) ((expand key).take i) := by
  have hlen := (keyWords_spec hkey).1
  rw [expand_length hkey] at hhi
  exact getD_expandLoop (by omega) (by omega)

/-- The recurrence of R202 on the bytes of the whole schedule. -/
theorem scheduleByte_of_nkOf_le {i k : Nat} (hlo : nkOf key.length ≤ i) (hhi : i < (expand key).length) (hk : k < 4) :
    scheduleByte key i k =
      scheduleByte key (i - nkOf key.length) k ^^^
        (if i % nkOf key.length = 0 then
          sbox (scheduleByte key (i - 1) ((k + 1) % 4)) ^^^ (if k = 0 then rcon (i / nkOf key.length - 1) else 0)
        else if nkOf key.length > 6 ∧ i % nkOf key.length = 4 then sbox (scheduleByte key (i - 1) k)
        else scheduleByte key (i - 1) k) := by
  have hnk := four_le_nkOf hkey
  have hlen : ((expand key).take i).length = i := List.length_take_of_le hhi.le
  have hbefore : ∀ j < i, ((expand key).take i).getD j [] = (expand key).getD j [] := fun j hj => by
    simp [List.getD_eq_getElem?_getD, hj]
  have hnext := nth_nextWord (ws := (expand key).take i) (show 0 < nkOf key.length by omega) (by omega)
    (fun w hw => expand_word_length hkey w (List.mem_of_mem_take hw)) hk
  rwa [hlen, hbefore _ (by omega), hbefore _ (by omega), ← getD_expand_of_nkOf_le hkey hlo hhi] at hnext

end

/-! ### ROUNDKEY after KEY_EXPAND -/

/-- Four-byte words laid end to end: byte `j` is byte `j % 4` of word `j / 4`. -/
theorem nth_flatten_of_words {ws : List Bytes} (hw : ∀ w ∈ ws, w.length = 4) (j : Nat) :
    nth ws.flatten j = nth (ws.getD (j / 4) []) (j % 4) := by
  induction ws generalizing j with
  | nil => simp [nth]
  | cons w ws ih =>
    have hlen : w.length = 4 := hw w List.mem_cons_self
    rw [List.flatten_cons]
    rcases Nat.lt_or_ge j 4 with hj | hj
    · rw [nth, List.getD_append _ _ _ _ (by omega), Nat.div_eq_of_lt hj, Nat.mod_eq_of_lt hj]
      rfl
    · have hdiv : j / 4 = (j - 4) / 4 + 1 := by omega
      have hmod : j % 4 = (j - 4) % 4 := by omega
      rw [nth, List.getD_append_right _ _ _ _ (by omega), hlen, hdiv, hmod, List.getD_cons_succ]
      exact ih (fun w hmem => hw w (List.mem_cons_of_mem _ hmem)) (j - 4)

/-- The bytes of a schedule's image are those the claims name (R205). -/
theorem nth_scheduleImage {key : Bytes} (hkey : aesKeyLength key.length) (j : Nat) :
    nth (scheduleImage (expand key)) j = roundKeyByte key j := by
  have hwords := expand_word_length hkey
  have hlen : (expand key).flatten.length = 16 * (key.length / 4 + 7) := by
    rw [flatten_length_of_words hwords, expand_length hkey]
    unfold nrOf nkOf
    omega
  rw [roundKeyByte, scheduleImage, nth]
  split
  next hj =>
    rw [List.getD_append _ _ _ _ (by omega)]
    exact nth_flatten_of_words hwords j
  next hj =>
    rw [List.getD_append_right _ _ _ _ (by omega)]
    simp

theorem badKey_eq_false_iff {s : State} : badKey s = false ↔ aesKeyLength s.keylen.toNat := by
  simp [badKey, BitVec.toNat_eq, or_iff_not_imp_left]

theorem badKey_eq_true_iff {s : State} : badKey s = true ↔ ¬ aesKeyLength s.keylen.toNat := by
  rw [← badKey_eq_false_iff, Bool.not_eq_false]

theorem exec_keyExpand_ok {s : State} (h : aesKeyLength s.keylen.toNat) :
    exec .keyExpand s = .next (s.commitSchedule (expand s.keyBytes) (nrOf s.keylen.toNat)).completeOk := by
  rw [exec, execKeyExpand, checkKey_ok h]
  rfl

theorem exec_keyExpand_err {s : State} (h : ¬ aesKeyLength s.keylen.toNat) :
    exec .keyExpand s = .next (s.completeErr .keyLength) := by
  rw [exec, execKeyExpand, checkKey_err h]
  rfl

/-- ROUNDKEY takes the schedule and its zeros, and no other byte moves (R205). -/
theorem byteAt_commitSchedule_expand {s : State} {key : Bytes} (hkey : aesKeyLength key.length) (nr a : Nat) :
    (s.commitSchedule (expand key) nr).byteAt a = overlay s 0x0100 240 (roundKeyByte key) a := by
  rw [byteAt_commitSchedule, length_scheduleImage hkey, overlay, ← nth_scheduleImage hkey]
  rfl

/-! ### The statements of 42_key_schedule.md -/

/-- Settles O31: the loop adds at each index the next word of the words before it, which later words leave in place. -/
theorem expandFollowsTheKeySchedule : Obligations.ExpandFollowsTheKeySchedule := by
  intro key hkey
  have hlen : (expand key).length = 4 * (key.length / 4 + 7) := expand_length hkey
  exact ⟨hlen, expand_word_length hkey, fun i k => scheduleByte_of_lt_nkOf hkey,
    fun i k hlo hhi => scheduleByte_of_nkOf_le hkey hlo (hhi.trans_eq hlen.symm)⟩

/-- Settles O32: the key check decides between one schedule commit and the bare KEY_LENGTH. -/
theorem keyExpandCommand : Obligations.KeyExpandCommand := by
  refine ⟨decodeOfEncode .keyExpand rfl, fun s => ⟨fun hgood => ?_, fun hbad => ?_⟩⟩
  · have hk := badKey_eq_false_iff.1 hgood
    have hkey : aesKeyLength s.keyBytes.length := by rwa [length_keyBytes]
    refine ⟨_, exec_keyExpand_ok hk, rfl, fun a => ?_⟩
    rw [byteAt_completeOk]
    exact byteAt_commitSchedule_expand hkey _ a
  · exact exec_keyExpand_err (badKey_eq_true_iff.1 hbad)

end Sys2Proof.Machine
end

section
/-! PROOFS. Family 43_round_transform.md: the transforms byte by byte, the single-step commands, and the cipher that they
make up. -/

namespace Sys2Proof.Machine

open Sys2Proof Sys2Proof.Claims

/-! ### One byte of the transforms (R220 to R226) -/

theorem nth_map {f : Byte → Byte} {b : Bytes} {k : Nat} (hk : k < b.length) : nth (b.map f) k = f (nth b k) := by
  simp [nth, hk]

theorem nth_permute (source : Nat → Nat) (b : Bytes) {k : Nat} (hk : k < 16) :
    nth (permute source b) k = nth b (source k) := by
  simp [nth, permute, hk]

theorem shiftSource_lt (i : Nat) : shiftSource i < 16 := by
  unfold shiftSource
  omega

theorem invShiftSource_lt (i : Nat) : invShiftSource i < 16 := by
  unfold invShiftSource
  omega

/-- Byte `i` of the product is row `i % 4` of the matrix, the first row rotated right that often, times column `i / 4`.
After the first column the recursion of `circulant` goes on with the rest, where every byte stands 4 places earlier. -/
theorem nth_circulant (m0 m1 m2 m3 : Byte) : ∀ (b : Bytes) {i : Nat}, i < b.length / 4 * 4 →
    nth (circulant m0 m1 m2 m3 b) i =
      ((List.range 4).map fun k => gfMul (nth [m0, m1, m2, m3] ((k + 4 - i % 4) % 4)) (nth b (4 * (i / 4) + k))).foldl
        (fun x y => x ^^^ y) 0
  | [], _, hi | [_], _, hi | [_, _], _, hi | [_, _, _], _, hi => by simp at hi
  | _ :: _ :: _ :: _ :: rest, i, hi => by
    rw [circulant]
    rcases Nat.lt_or_ge i 4 with hfirst | hlater
    · interval_cases i <;> simp [nth, List.range_succ]
    · obtain ⟨j, rfl⟩ := Nat.exists_eq_add_of_le' hlater
      have hcolumn : ∀ k, 4 * ((j + 4) / 4) + k = 4 * (j / 4) + k + 4 := by omega
      have hrest := nth_circulant m0 m1 m2 m3 rest (i := j) (by simp only [List.length_cons] at hi; omega)
      simp only [hcolumn, Nat.add_mod_right]
      exact hrest

/-- Byte `k` of round key `r` is byte `k % 4` of word `4r + k / 4` (R203). -/
theorem nth_roundKey {key : Bytes} (hkey : aesKeyLength key.length) (r : Nat) {k : Nat} (hk : k < 16) :
    nth (roundKey (expand key) r) k = scheduleByte key (4 * r + k / 4) (k % 4) := by
  have hwords : ∀ w ∈ ((expand key).drop (4 * r)).take 4, w.length = 4 := fun w hw =>
    expand_word_length hkey w (List.mem_of_mem_drop (List.mem_of_mem_take hw))
  have hword : k / 4 < 4 := by omega
  rw [roundKey, nth_flatten_of_words hwords, scheduleByte]
  simp [List.getD_eq_getElem?_getD, hword]

/-! ### The STATE buffer -/

theorem nth_stateBytes (s : State) {k : Nat} (hk : k < 16) : nth s.stateBytes k = s.byteAt (0x0090 + k) :=
  getD_buf s .state 16 k hk

theorem stateBytes_completeOk (s : State) : s.completeOk.stateBytes = s.stateBytes := rfl

theorem keyBytes_completeOk (s : State) : s.completeOk.keyBytes = s.keyBytes := rfl

theorem stateBytes_commitState (s : State) {b : Bytes} (hb : b.length = 16) : (s.commitState b).stateBytes = b := by
  rw [State.stateBytes, ← hb]
  exact buf_setBuf s .state b

/-- The product of the columns of STATE, in the words of R224 and R225. -/
theorem nth_circulant_stateBytes (m0 m1 m2 m3 : Byte) (s : State) {i : Nat} (hi : i < 16) :
    nth (circulant m0 m1 m2 m3 s.stateBytes) i =
      ((List.range 4).map fun k =>
        gfMul (nth [m0, m1, m2, m3] ((k + 4 - i % 4) % 4)) (s.byteAt (0x0090 + 4 * (i / 4) + k))).foldl
          (fun x y => x ^^^ y) 0 := by
  rw [nth_circulant _ _ _ _ _ (by simpa)]
  refine congrArg (List.foldl _ 0) (List.map_congr_left fun k hk => ?_)
  have hlt : k < 4 := List.mem_range.1 hk
  rw [nth_stateBytes s (by omega), Nat.add_assoc]

/-- STATE lies past the whole of KEY. -/
theorem keyBytes_commitState {s : State} (hk : s.keylen.toNat ≤ 64) (b : Bytes) :
    (s.commitState b).keyBytes = s.keyBytes := by
  refine bufFrom_congr fun k (hlt : k < s.keylen.toNat) => (byteAt_setBuf s .state b _).trans (if_neg ?_)
  simp only [Buf.base]
  omega

theorem buf_dout_commitOut (s : State) {out : Bytes} {n : Nat} (hn : out.length = n) :
    (s.commitOut out).buf .dout n = out := by
  subst hn
  exact buf_setBuf s .dout out

/-! ### The single-step commands -/

/-- A command that commits a block to STATE and completes answers as R230 to R236 say. -/
theorem answersState_of_commitState {i : Instr} {s : State} {b : Bytes} {out : Nat → Byte}
    (hexec : exec i s = .next (s.commitState b).completeOk) (hlen : b.length = 16) (hout : ∀ k < 16, nth b k = out k) :
    AnswersState i s out := by
  refine ⟨_, hexec, rfl, fun a => ?_⟩
  rw [byteAt_completeOk, State.commitState, byteAt_setBuf, hlen, overlay, Buf.base]
  split
  next ha => exact hout _ (by omega)
  next => rfl

theorem answersState_of_map {i : Instr} {s : State} {f : Byte → Byte}
    (hexec : exec i s = .next (s.commitState (s.stateBytes.map f)).completeOk) :
    AnswersState i s fun k => f (s.byteAt (0x0090 + k)) :=
  answersState_of_commitState hexec (by simp) fun k hk => by rw [nth_map (by simpa), nth_stateBytes s hk]

theorem answersState_of_permute {i : Instr} {s : State} {source offset : Nat → Nat}
    (hexec : exec i s = .next (s.commitState (permute source s.stateBytes)).completeOk)
    (hsource : ∀ k, source k < 16 ∧ offset k = 0x0090 + source k) :
    AnswersState i s fun k => s.byteAt (offset k) :=
  answersState_of_commitState hexec (by simp) fun k hk => by
    rw [nth_permute _ _ hk, nth_stateBytes s (hsource k).1, (hsource k).2]

theorem exec_addRoundKey_ok {s : State} {r : Nat} (hk : aesKeyLength s.keylen.toNat) (hr : r ≤ nrOf s.keylen.toNat) :
    exec (.addRoundKey r) s =
      .next (s.commitState (addRoundKey s.stateBytes (roundKey (expand s.keyBytes) r))).completeOk := by
  rw [exec, execAddRoundKey, checkKey_ok hk, require_pos hr]
  rfl

theorem exec_addRoundKey_keyLength {s : State} {r : Nat} (hk : ¬ aesKeyLength s.keylen.toNat) :
    exec (.addRoundKey r) s = .next (s.completeErr .keyLength) := by
  rw [exec, execAddRoundKey, checkKey_err hk]
  rfl

theorem exec_addRoundKey_range {s : State} {r : Nat} (hk : aesKeyLength s.keylen.toNat)
    (hr : ¬ r ≤ nrOf s.keylen.toNat) : exec (.addRoundKey r) s = .next (s.completeErr .range) := by
  rw [exec, execAddRoundKey, checkKey_ok hk, require_neg hr]
  rfl

theorem exec_blockEnc_ok {s : State} (hk : aesKeyLength s.keylen.toNat) (hd : s.dlen.toNat = 16) :
    exec .blockEnc s = .next (s.commitOut (encryptBlock s.keyBytes s.blockIn)).completeOk := by
  rw [exec, execBlockEnc, checkBlockCommand_ok hk hd]
  rfl

/-! ### Steps of the cipher as commands (R237) -/

/-- The single-step command of a step of the cipher. -/
def CipherStep.command (st : CipherStep) : Instr :=
  match st.op with
  | .addRoundKey => .addRoundKey st.round
  | .subBytes => .subBytes
  | .shiftRows => .shiftRows
  | .mixColumns => .mixColumns
  | .invSubBytes => .invSubBytes
  | .invShiftRows => .invShiftRows
  | .invMixColumns => .invMixColumns

/-- The command of a step applies that step to STATE. -/
theorem exec_command {s : State} {st : CipherStep} (hk : aesKeyLength s.keylen.toNat)
    (hr : st.round ≤ nrOf s.keylen.toNat) :
    exec st.command s = .next (s.commitState (st.apply (expand s.keyBytes) s.stateBytes)).completeOk := by
  obtain ⟨round, op⟩ := st
  cases op with
  | addRoundKey => exact exec_addRoundKey_ok hk hr
  | _ => rfl

theorem singleSteps_eq_map_command (nr : Nat) : singleSteps nr = (encSteps nr).map CipherStep.command := by
  simp [singleSteps, encSteps, encRound, CipherStep.command, List.range'_eq_map_range, List.map_flatMap,
    List.flatMap_map, Nat.add_comm]

/-- The commands of a list of steps apply the steps to STATE, in order; unless there are none, they clear ERRCODE. KEY
stays as it is all along, so that every command adds a round key of the same schedule. -/
theorem runCommands_map_command {sts : List CipherStep} {s : State} (hk : aesKeyLength s.keylen.toNat)
    (hr : ∀ st ∈ sts, st.round ≤ nrOf s.keylen.toNat) :
    ∃ t, runCommands (sts.map CipherStep.command) s = .next t ∧ (s.errcode = none ∨ sts ≠ [] → t.errcode = none) ∧
      t.stateBytes = runSteps (expand s.keyBytes) sts s.stateBytes := by
  induction sts generalizing s with
  | nil => exact ⟨s, rfl, fun h => h.resolve_right (absurd rfl), rfl⟩
  | cons st sts ih =>
    have hkey : aesKeyLength s.keyBytes.length := by rwa [length_keyBytes]
    have hst := hr st List.mem_cons_self
    have hlen : (st.apply (expand s.keyBytes) s.stateBytes).length = 16 :=
      length_apply hkey (by rwa [length_keyBytes]) (length_stateBytes s)
    obtain ⟨t, hrun, herr, hstate⟩ :=
      ih (s := (s.commitState (st.apply (expand s.keyBytes) s.stateBytes)).completeOk) hk
        fun x hx => hr x (List.mem_cons_of_mem _ hx)
    refine ⟨t, ?_, fun _ => herr (.inl rfl), ?_⟩
    · rw [List.map_cons, runCommands, exec_command hk hst]
      exact hrun
    · rw [hstate, keyBytes_completeOk, stateBytes_completeOk, keyBytes_commitState (by omega),
        stateBytes_commitState s hlen, runSteps]

/-! ### The statements of 43_round_transform.md -/

/-- Settles O44: the commands are those of the steps of E, one by one, and BLOCK_ENC runs the same steps. -/
theorem singleStepsComputeTheCipher : Obligations.SingleStepsComputeTheCipher := by
  intro s hgood
  have hk := badKey_eq_false_iff.1 hgood
  obtain ⟨t, hrun, herr, hstate⟩ :=
    runCommands_map_command (sts := encSteps (nrOf s.keylen.toNat)) hk (encSteps_round_le _)
  have hcipher : t.stateBytes = encryptBlock s.keyBytes s.stateBytes := by
    rw [hstate, encryptBlock, length_keyBytes]
  refine ⟨t, ?_, herr (.inr ?_), hcipher, fun u v hkeylen hkey hdlen hdin hexec => ?_⟩
  · rwa [← singleSteps_eq_map_command] at hrun
  · simp [encSteps]
  · rw [exec_blockEnc_ok (by rwa [hkeylen]) (by rw [hdlen]; rfl), hkey, hdin] at hexec
    cases hexec
    rw [hcipher]
    exact buf_dout_commitOut u (length_encryptBlock (by rwa [length_keyBytes]) (length_stateBytes s))

/-- Settles O33: both commands apply their table byte by byte. -/
theorem subBytesCommands : Obligations.SubBytesCommands :=
  ⟨decodeOfEncode .subBytes rfl, decodeOfEncode .invSubBytes rfl, fun _ =>
    ⟨answersState_of_map rfl, answersState_of_map rfl⟩⟩

/-- Settles O34: both commands permute the bytes of STATE. -/
theorem shiftRowsCommands : Obligations.ShiftRowsCommands :=
  ⟨decodeOfEncode .shiftRows rfl, decodeOfEncode .invShiftRows rfl, fun _ =>
    ⟨answersState_of_permute rfl fun k => ⟨shiftSource_lt k, Nat.add_assoc ..⟩,
      answersState_of_permute rfl fun k => ⟨invShiftSource_lt k, Nat.add_assoc ..⟩⟩⟩

/-- Settles O35: the product of a column and a row of the circulant matrix, for both first rows. -/
theorem mixColumnsCommands : Obligations.MixColumnsCommands := by
  refine ⟨decodeOfEncode .mixColumns rfl, decodeOfEncode .invMixColumns rfl, fun s => ⟨?_, ?_⟩⟩
  · exact answersState_of_commitState (b := mixColumns s.stateBytes) rfl (length_mixColumns (length_stateBytes s))
      fun i hi => nth_circulant_stateBytes _ _ _ _ s hi
  · exact answersState_of_commitState (b := invMixColumns s.stateBytes) rfl (length_invMixColumns (length_stateBytes s))
      fun i hi => nth_circulant_stateBytes _ _ _ _ s hi

/-- Settles O36: the two checks in their order, and then one commit of the XOR with the round key. -/
theorem addRoundKeyCommand : Obligations.AddRoundKeyCommand := by
  refine ⟨fun r hr => ?_, fun s r => ⟨fun hgood hr => ?_, fun hbad => ?_, fun hgood hr => ?_⟩⟩
  · have hdecode := decodeOfEncode (.addRoundKey r) (decide_eq_true hr)
    rwa [encode, Nat.mod_eq_of_lt (by omega)] at hdecode
  · have hk := badKey_eq_false_iff.1 hgood
    have hkey : aesKeyLength s.keyBytes.length := by rwa [length_keyBytes]
    have hlen : (roundKey (expand s.keyBytes) r).length = 16 := length_roundKey hkey (by rwa [length_keyBytes])
    refine answersState_of_commitState (exec_addRoundKey_ok hk hr) (by simp [addRoundKey, hlen]) fun k hlt => ?_
    rw [addRoundKey, nth_xorBytes (by simpa) (by rwa [hlen]), nth_stateBytes s hlt, nth_roundKey hkey r hlt]
  · exact exec_addRoundKey_keyLength (badKey_eq_true_iff.1 hbad)
  · exact exec_addRoundKey_range (badKey_eq_false_iff.1 hgood) (Nat.not_le.2 hr)

end Sys2Proof.Machine
end

section
/-! PROOFS. Family 44_block_cipher.md: the rounds of the cipher, its traces, and the block commands. -/

namespace Sys2Proof.Machine

open Sys2Proof Sys2Proof.Claims

/-! ### Pieces of equal length -/

theorem length_flatMap_of_length {α β : Type} {f : α → List β} {n : Nat} {xs : List α}
    (hf : ∀ x ∈ xs, (f x).length = n) : (xs.flatMap f).length = n * xs.length := by
  rw [List.length_flatMap, List.map_congr_left hf]
  simp [Nat.mul_comm]

/-- Pieces of `n` elements laid end to end: element `k` is element `k % n` of piece `k / n`. -/
theorem getElem?_flatMap_of_length {α β : Type} {f : α → List β} {n : Nat} (hn : 0 < n) {xs : List α}
    (hf : ∀ x ∈ xs, (f x).length = n) (k : Nat) :
    (xs.flatMap f)[k]? = xs[k / n]?.bind fun x => (f x)[k % n]? := by
  induction xs generalizing k with
  | nil => rfl
  | cons x xs ih =>
    have hx : (f x).length = n := hf x List.mem_cons_self
    rw [List.flatMap_cons, List.getElem?_append, hx]
    split
    next hk => simp [Nat.div_eq_of_lt hk, Nat.mod_eq_of_lt hk]
    next hk =>
      obtain ⟨j, rfl⟩ := Nat.exists_eq_add_of_le' (Nat.not_lt.1 hk)
      rw [Nat.add_sub_cancel, Nat.add_div_right j hn, Nat.add_mod_right, List.getElem?_cons_succ]
      exact ih (fun y hy => hf y (List.mem_cons_of_mem _ hy)) j

/-! ### The steps of E and D in groups (R250, R251) -/

/-- The operations `ops` with the round label `r`. -/
def roundGroup (ops : List TraceOp) (r : Nat) : List CipherStep := ops.map (CipherStep.mk r)

/-- The form that E and D share: one AddRoundKey, then `n` groups of the operations `middle`, group `i` with the
label `round i`, then one group of the operations `final` with the label `last`. -/
def groupedSteps (first n : Nat) (round : Nat → Nat) (middle : List TraceOp) (last : Nat) (final : List TraceOp) :
    List CipherStep :=
  ⟨first, .addRoundKey⟩ :: ((List.range n).flatMap (fun i => roundGroup middle (round i)) ++ roundGroup final last)

theorem encSteps_eq_groupedSteps (nr : Nat) :
    encSteps nr = groupedSteps 0 (nr - 1) (fun i => i + 1) [.subBytes, .shiftRows, .mixColumns, .addRoundKey] nr
      [.subBytes, .shiftRows, .addRoundKey] := by
  rw [encSteps, List.range'_eq_map_range, List.flatMap_map]
  simp only [Nat.add_comm 1]
  rfl

theorem decSteps_eq_groupedSteps (nr : Nat) :
    decSteps nr = groupedSteps nr (nr - 1) (fun i => nr - 1 - i)
      [.invShiftRows, .invSubBytes, .addRoundKey, .invMixColumns] 0 [.invShiftRows, .invSubBytes, .addRoundKey] := by
  rw [decSteps, List.reverse_range', List.flatMap_map]
  simp only [Nat.add_sub_cancel_left]
  rfl

theorem runSteps_eq_foldl (ws : List Bytes) (sts : List CipherStep) (b : Bytes) :
    runSteps ws sts b = sts.foldl (fun b st => st.apply ws b) b := by
  induction sts generalizing b with
  | nil => rfl
  | cons st sts ih => exact ih _

/-- The groups run one after another. -/
theorem runSteps_groupedSteps (ws : List Bytes) (first n : Nat) (round : Nat → Nat) (middle : List TraceOp)
    (last : Nat) (final : List TraceOp) (b : Bytes) :
    runSteps ws (groupedSteps first n round middle last final) b =
      runSteps ws (roundGroup final last) ((List.range n).foldl
        (fun b i => runSteps ws (roundGroup middle (round i)) b) (addRoundKey b (roundKey ws first))) := by
  rw [groupedSteps, runSteps, runSteps_append]
  simp only [runSteps_eq_foldl, List.foldl_flatMap]
  rfl

theorem label_roundGroup {ops : List TraceOp} {r k : Nat} {st : CipherStep} (hst : (roundGroup ops r)[k]? = some st) :
    (st.round, st.op) = (r, ops.getD k .addRoundKey) := by
  rw [roundGroup, List.getElem?_map] at hst
  obtain ⟨op, hop, rfl⟩ := Option.map_eq_some_iff.1 hst
  rw [List.getD_eq_getElem?_getD, hop]
  rfl

/-- The label and the operation of step `k`: the first step, a step of a middle group, or one of the final group. -/
theorem label_groupedSteps {first n : Nat} {round : Nat → Nat} {middle : List TraceOp} {last : Nat}
    {final : List TraceOp} {k : Nat} {st : CipherStep} (hmiddle : middle.length = 4)
    (hst : (groupedSteps first n round middle last final)[k]? = some st) :
    (st.round, st.op) =
      if k = 0 then (first, .addRoundKey)
      else if k ≤ 4 * n then (round ((k - 1) / 4), middle.getD ((k - 1) % 4) .addRoundKey)
      else (last, final.getD (k - 1 - 4 * n) .addRoundKey) := by
  have hgroup : ∀ i ∈ List.range n, (roundGroup middle (round i)).length = 4 := fun i _ => by
    simp [roundGroup, hmiddle]
  have hlen : ((List.range n).flatMap fun i => roundGroup middle (round i)).length = 4 * n := by
    rw [length_flatMap_of_length hgroup, List.length_range]
  rw [groupedSteps] at hst
  cases k with
  | zero =>
    cases hst
    rfl
  | succ k =>
    rw [List.getElem?_cons_succ, List.getElem?_append, hlen] at hst
    rw [if_neg (Nat.succ_ne_zero k), Nat.add_sub_cancel]
    split at hst
    next hk =>
      rw [getElem?_flatMap_of_length (by decide) hgroup, List.getElem?_range (by omega)] at hst
      rw [if_pos (Nat.succ_le_of_lt hk), label_roundGroup hst]
    next hk => rw [if_neg (mt Nat.lt_of_succ_le hk), label_roundGroup hst]

/-! ### Traces (R252, R253) -/

/-- Record `k` names step `k` and holds the state after the steps up to it. -/
theorem getElem?_traceSteps (ws : List Bytes) (sts : List CipherStep) (b : Bytes) (k : Nat) :
    (traceSteps ws sts b)[k]? = sts[k]?.map fun st => ⟨st.round, st.op, runSteps ws (sts.take (k + 1)) b⟩ := by
  induction sts generalizing b k with
  | nil => rfl
  | cons st sts ih =>
    cases k with
    | zero => rfl
    | succ k => exact ih _ k

theorem getLast?_state_traceSteps (ws : List Bytes) {sts : List CipherStep} (b : Bytes) (hne : sts ≠ []) :
    ((traceSteps ws sts b).map TraceRecord.state).getLast? = some (runSteps ws sts b) := by
  have hpos : 0 < sts.length := List.length_pos_iff.2 hne
  rw [List.getLast?_eq_getElem?, List.getElem?_map, getElem?_traceSteps, List.length_map, length_traceSteps,
    List.getElem?_eq_getElem (by omega), List.take_of_length_le (by omega)]
  rfl

/-- The state of record `k` is what its operation makes of the state of the record before it, or of the block. -/
theorem state_getElem?_traceSteps {ws : List Bytes} {sts : List CipherStep} {b : Bytes} {k : Nat} {r : TraceRecord}
    (hr : (traceSteps ws sts b)[k]? = some r) :
    r.state = CipherStep.apply ws ⟨r.round, r.op⟩
      (if k = 0 then b else (((traceSteps ws sts b)[k - 1]?).map TraceRecord.state).getD []) := by
  rw [getElem?_traceSteps] at hr
  obtain ⟨st, hst, rfl⟩ := Option.map_eq_some_iff.1 hr
  have hbefore : (if k = 0 then b else (((traceSteps ws sts b)[k - 1]?).map TraceRecord.state).getD []) =
      runSteps ws (sts.take k) b := by
    cases k with
    | zero => rfl
    | succ j =>
      obtain ⟨hlt, -⟩ := List.getElem?_eq_some_iff.1 hst
      rw [if_neg (Nat.succ_ne_zero j), Nat.add_sub_cancel, getElem?_traceSteps, List.getElem?_eq_getElem (by omega)]
      rfl
  rw [hbefore]
  show runSteps ws (sts.take (k + 1)) b = _
  rw [List.take_add_one, hst, runSteps_append]
  rfl

/-- Steps with the labels and the number that R252 gives leave the trace that it asks for. -/
theorem isTrace_traceSteps {key b : Bytes} {sts : List CipherStep} {label : Nat → Nat → Nat × TraceOp}
    (hlen : sts.length = 4 * nrOf key.length)
    (hlabel : ∀ k st, sts[k]? = some st → (st.round, st.op) = label (nrOf key.length) k) :
    IsTrace key b (runSteps (expand key) sts b) (traceSteps (expand key) sts b) label := by
  have hne : sts ≠ [] := by
    rintro rfl
    simp [nrOf] at hlen
  refine ⟨(length_traceSteps ..).trans hlen, getLast?_state_traceSteps _ b hne, fun k r hr =>
    ⟨?_, state_getElem?_traceSteps hr⟩⟩
  rw [getElem?_traceSteps] at hr
  obtain ⟨st, hst, rfl⟩ := Option.map_eq_some_iff.1 hr
  exact hlabel k st hst

theorem length_encSteps_nrOf (len : Nat) : (encSteps (nrOf len)).length = 4 * nrOf len := by
  rw [length_encSteps, nrOf]
  omega

theorem length_decSteps_nrOf (len : Nat) : (decSteps (nrOf len)).length = 4 * nrOf len := by
  rw [length_decSteps, nrOf]
  omega

theorem length_encryptTrace (key b : Bytes) : (encryptTrace key b).length = 4 * nrOf key.length :=
  (length_traceSteps ..).trans (length_encSteps_nrOf _)

theorem length_decryptTrace (key b : Bytes) : (decryptTrace key b).length = 4 * nrOf key.length :=
  (length_traceSteps ..).trans (length_decSteps_nrOf _)

/-! ### TRACE in memory (R54, R256) -/

theorem nth_append {a b : Bytes} (k : Nat) :
    nth (a ++ b) k = if k < a.length then nth a k else nth b (k - a.length) := by
  simp only [nth, List.getD_eq_getElem?_getD, List.getElem?_append]
  split <;> rfl

theorem nth_replicate_zero (n k : Nat) : nth (List.replicate n 0) k = 0 := by
  simp [nth]

/-- The bytes of a record are those the claims name. -/
theorem nth_bytes {t : TraceRecord} (hstate : t.state.length = 16) (m : Nat) : nth t.bytes m = recordByte t m := by
  rw [TraceRecord.bytes, nth_append, nth_append, nth_replicate_zero, List.length_append, hstate, recordByte]
  rcases Nat.lt_or_ge m 4 with hm | hm
  · interval_cases m <;> rfl
  · simp only [List.length_cons, List.length_nil]
    have h0 : m ≠ 0 := by omega
    have h1 : m ≠ 1 := by omega
    rw [if_neg (Nat.not_lt.2 hm), if_neg h0, if_neg h1]
    exact if_congr (by omega) rfl rfl

/-- The bytes of TRACE for a trace are those the claims name. -/
theorem nth_traceImage {tr : List TraceRecord} (hstate : ∀ t ∈ tr, t.state.length = 16) (j : Nat) :
    nth (traceImage tr) j = traceByte tr j := by
  have hrecord : ∀ t ∈ tr, t.bytes.length = 32 := fun t ht => by simp [TraceRecord.bytes, hstate t ht]
  rw [traceImage, nth_append, nth_replicate_zero, length_flatMap_of_length hrecord, traceByte]
  split
  next hj =>
    have hlt : j / 32 < tr.length := by omega
    rw [nth, List.getD_eq_getElem?_getD, getElem?_flatMap_of_length (by decide) hrecord, List.getElem?_eq_getElem hlt]
    exact nth_bytes (hstate _ (List.getElem_mem hlt)) _
  next hj => rw [List.getElem?_eq_none (by omega)]

/-- The trace commit writes ROUNDKEY and TRACE, and no other byte moves (R256). -/
theorem byteAt_commitTrace {s : State} {key : Bytes} {tr : List TraceRecord} (hkey : aesKeyLength key.length)
    (hstate : ∀ t ∈ tr, t.state.length = 16) (hlen : tr.length ≤ 64) (a : Nat) :
    (s.commitTrace key tr).byteAt a =
      if 0x0100 ≤ a ∧ a < 0x01F0 then roundKeyByte key (a - 0x0100)
      else if 0x4000 ≤ a ∧ a < 0x4800 then traceByte tr (a - 0x4000)
      else s.byteAt a := by
  have hschedule : (s.commitTrace key tr).byteAt a =
      ((s.setBuf .trace (traceImage tr)).commitSchedule (expand key) (nrOf key.length)).byteAt a :=
    byteAt_of_mem_eq rfl rfl a
  rw [hschedule, byteAt_commitSchedule_expand hkey, overlay, byteAt_setBuf, length_traceImage hstate hlen,
    ← nth_traceImage hstate]
  rfl

/-! ### Commands that pass or fail their checks (R152, R153) -/

theorem exec_of_checks_ok {i : Instr} {s : State} {c : Commit} (hchecks : checks s i = .ok ())
    (hresult : result s i = .ok c) : exec i s = .next (c.apply s).completeOk := by
  rw [exec_eq_outcome, outcome, hchecks, except_ok_bind, hresult]
  rfl

theorem answersErr_of_checks {i : Instr} {s : State} {e : ErrCode} (hchecks : checks s i = .error e) :
    AnswersErr i s e := by
  rw [AnswersErr, exec_eq_outcome, outcome, hchecks]
  rfl

/-- The outcome of checks whose first failure is `e`. -/
def raised : Option ErrCode → Except ErrCode Unit
  | none => .ok ()
  | some e => .error e

/-- One check in front of the others, as the claims list it and as the model sequences it. -/
theorem raised_firstError_cons {p : Prop} [Decidable p] {failing : Bool} (h : failing = false ↔ p) (e : ErrCode)
    (rest : List (Bool × ErrCode)) :
    raised (firstError ((failing, e) :: rest)) = (require p e >>= fun _ => raised (firstError rest)) := by
  cases failing with
  | false => rw [require_pos (h.1 rfl)]; rfl
  | true => rw [require_neg fun hp => Bool.noConfusion (h.2 hp)]; rfl

theorem raised_firstError_singleton {p : Prop} [Decidable p] {failing : Bool} (h : failing = false ↔ p)
    (e : ErrCode) : raised (firstError [(failing, e)]) = require p e :=
  (raised_firstError_cons h e []).trans bind_pure_unit

theorem longData_eq_false_iff {s : State} : longData s = false ↔ s.dlen.toNat ≤ Config.maxData := by
  simp [longData, Config.maxData]

/-- The checks of the block commands are those the claims list, in their order (R254). -/
theorem checkBlockCommand_eq_raised (s : State) : s.checkBlockCommand = raised (blockChecks s) := by
  have hblock : (s.dlen != 16) = false ↔ s.dlen.toNat = 16 := by simp [BitVec.toNat_eq]
  rw [blockChecks, raised_firstError_cons badKey_eq_false_iff, raised_firstError_cons longData_eq_false_iff,
    raised_firstError_singleton hblock]
  rfl

theorem checkBlockCommand_of_none {s : State} (h : blockChecks s = none) : s.checkBlockCommand = .ok () :=
  (checkBlockCommand_eq_raised s).trans (congrArg raised h)

theorem checkBlockCommand_of_some {s : State} {e : ErrCode} (h : blockChecks s = some e) :
    s.checkBlockCommand = .error e :=
  (checkBlockCommand_eq_raised s).trans (congrArg raised h)

theorem aesKeyLength_keyBytes_of_checks {s : State} (h : s.checkBlockCommand = .ok ()) :
    aesKeyLength s.keyBytes.length := by
  rw [length_keyBytes]
  exact aesKeyLength_of_checkBlockCommand h

/-! ### What the block commands answer -/

theorem blockOf_dinByte (s : State) : blockOf (dinByte s) 0 = s.blockIn := by
  rw [blockOf, State.blockIn, State.buf, State.bufFrom]
  refine List.map_congr_left fun k _ => ?_
  rw [dinByte, Nat.mul_zero, Nat.zero_add]
  rfl

theorem byteAt_commitOut_eq_overlay (s : State) {out : Bytes} {n : Nat} (hlen : out.length = n) (a : Nat) :
    (s.commitOut out).byteAt a = overlay s 0x2000 n (nth out) a := by
  subst hlen
  exact byteAt_commitOut s out a

/-- A command that commits `out` to DOUT and OLEN once its checks have passed answers as R254 says. -/
theorem answersOut_of_result {i : Instr} {s : State} {out : Bytes} {n : Nat} (hchecks : checks s i = .ok ())
    (hresult : result s i = .ok (.ofOut out)) (hlen : out.length = n) : AnswersOut i s n (nth out) := by
  refine ⟨_, exec_of_checks_ok hchecks hresult, ?_, fun a => ?_⟩
  · rw [Commit.apply_ofOut, ← hlen]
    rfl
  · rw [byteAt_completeOk, Commit.apply_ofOut]
    exact byteAt_commitOut_eq_overlay s hlen a

/-- A command that commits `out`, the trace `tr` and the schedule of KEY once its checks have passed answers as R256
says. -/
theorem answersTraced_of_result {i : Instr} {s : State} {out : Bytes} {tr : List TraceRecord}
    (hchecks : checks s i = .ok ()) (hresult : result s i = .ok (.ofTrace out s.keyBytes tr))
    (hkey : aesKeyLength s.keyBytes.length) (hout : out.length = 16) (htr : tr.length = 4 * nrOf s.keyBytes.length)
    (hstate : ∀ t ∈ tr, t.state.length = 16) : AnswersTraced i s out tr := by
  have hnr := nrOf_le hkey
  refine ⟨_, exec_of_checks_ok hchecks hresult, ?_, fun a => ?_⟩
  · simp only [Commit.apply_ofTrace, State.commitTrace, State.commitOut, htr, hout, length_keyBytes]
    rfl
  · have hdisjoint : 0x4000 ≤ a ∧ a < 0x4800 → ¬ (0x2000 ≤ a ∧ a < 0x2000 + 16) := by omega
    rw [byteAt_completeOk, Commit.apply_ofTrace, byteAt_commitTrace hkey hstate (by omega),
      byteAt_commitOut_eq_overlay s hout, overlay, ite_ite_comm _ _ _ _ hdisjoint]

/-! ### The statements of 44_block_cipher.md -/

/-- Settles O37: the steps of E are grouped by rounds, and the groups run one after another. -/
theorem encryptFollowsTheRounds : Obligations.EncryptFollowsTheRounds := by
  intro key b _
  rw [encryptBlock, encSteps_eq_groupedSteps, runSteps_groupedSteps]
  rfl

/-- Settles O38: the steps of D are grouped by round keys, from Nr - 1 down, and the groups run one after another. -/
theorem decryptFollowsTheRounds : Obligations.DecryptFollowsTheRounds := by
  intro key b _
  rw [decryptBlock, decSteps_eq_groupedSteps, runSteps_groupedSteps]
  rfl

/-- Settles O43: a trace has one record for each step, and the grouped steps have the labels of R252 and R253. -/
theorem tracesRecordEveryStep : Obligations.TracesRecordEveryStep := by
  intro key b _
  refine ⟨isTrace_traceSteps (length_encSteps_nrOf _) fun k st hst => ?_,
    isTrace_traceSteps (length_decSteps_nrOf _) fun k st hst => ?_⟩
  · rw [encSteps_eq_groupedSteps] at hst
    exact label_groupedSteps rfl hst
  · rw [decSteps_eq_groupedSteps] at hst
    exact label_groupedSteps rfl hst

/-- Settles O40, by evaluation of the three vectors. -/
theorem knownAnswers : Obligations.KnownAnswers := by
  refine ⟨?_, ?_, ?_⟩ <;> decide +kernel

/-- Settles O41: the checks are those of the claims, and a command that passes them commits one block. -/
theorem blockCommands : Obligations.BlockCommands := by
  refine ⟨decodeOfEncode .blockEnc rfl, decodeOfEncode .blockDec rfl, fun s => ?_⟩
  rw [blockOf_dinByte]
  refine ⟨fun hpass => ?_, fun e hfail => ?_⟩
  · have hchecks := checkBlockCommand_of_none hpass
    have hkey := aesKeyLength_keyBytes_of_checks hchecks
    exact ⟨answersOut_of_result hchecks rfl (length_encryptBlock hkey (length_blockIn s)),
      answersOut_of_result hchecks rfl (length_decryptBlock hkey (length_blockIn s))⟩
  · have hchecks := checkBlockCommand_of_some hfail
    exact ⟨answersErr_of_checks hchecks, answersErr_of_checks hchecks⟩

/-- Settles O42: the same checks, and a commit of the block with the trace and the schedule. -/
theorem tracedBlockCommands : Obligations.TracedBlockCommands := by
  refine ⟨decodeOfEncode .blockEncT rfl, decodeOfEncode .blockDecT rfl, fun s => ?_⟩
  rw [blockOf_dinByte]
  refine ⟨fun hpass => ?_, fun e hfail => ?_⟩
  · have hchecks := checkBlockCommand_of_none hpass
    have hkey := aesKeyLength_keyBytes_of_checks hchecks
    exact ⟨answersTraced_of_result hchecks rfl hkey
        (length_encryptBlock hkey (length_blockIn s)) (length_encryptTrace _ _)
        (length_state_of_mem_traceSteps hkey (encSteps_round_le _) (length_blockIn s)),
      answersTraced_of_result hchecks rfl hkey
        (length_decryptBlock hkey (length_blockIn s)) (length_decryptTrace _ _)
        (length_state_of_mem_traceSteps hkey (decSteps_round_le _) (length_blockIn s))⟩
  · have hchecks := checkBlockCommand_of_some hfail
    exact ⟨answersErr_of_checks hchecks, answersErr_of_checks hchecks⟩

end Sys2Proof.Machine
end

section
/-! PROOFS. Family 45_padding.md: the PKCS7 padder, and the commands PAD and UNPAD. -/

namespace Sys2Proof.Machine

open Sys2Proof Sys2Proof.Claims

/-! ### Bytes of a padded sequence (R280) -/

theorem nth_append_replicate_of_le {out : Bytes} {n k : Nat} {x : Byte} (hlo : out.length ≤ k)
    (hhi : k < out.length + n) : nth (out ++ List.replicate n x) k = x := by
  rw [nth_append, if_neg (Nat.not_lt.2 hlo), nth, List.getD_replicate _ (by omega)]

theorem nth_padBytes {d : Bytes} {k : Nat} (hk : k < (padBytes d).length) :
    nth (padBytes d) k = if k < d.length then nth d k else BitVec.ofNat 8 (padCount d.length) := by
  rw [length_padBytes] at hk
  split
  next hlt => rw [padBytes, nth_append, if_pos hlt]
  next hge => exact nth_append_replicate_of_le (Nat.not_lt.1 hge) hk

theorem nth_dataIn (s : State) {k : Nat} (hk : k < s.dlen.toNat) : nth s.dataIn k = dinByte s k :=
  getD_buf s .din _ k hk

/-! ### What unpad answers (R281) -/

/-- `d` is `out` with padding in the form of R280 behind it: n bytes of value n, n from 1 to 16. -/
def PaddedWith (n : Nat) (d out : Bytes) : Prop :=
  1 ≤ n ∧ n ≤ 16 ∧ d = out ++ List.replicate n (BitVec.ofNat 8 n)

theorem paddedWith_padBytes (d : Bytes) : PaddedWith (padCount d.length) (padBytes d) d :=
  ⟨(padCount_bounds _).1, (padCount_bounds _).2, rfl⟩

/-- A sequence whose last `n` bytes all are `x`, the byte of value `n`, is padded. -/
theorem paddedWith_of_forall_drop {d : Bytes} {x : Byte} (hpos : 1 ≤ x.toNat) (hle : x.toNat ≤ 16)
    (hlen : x.toNat ≤ d.length) (hall : ∀ z ∈ d.drop (d.length - x.toNat), z = x) :
    PaddedWith x.toNat d (d.take (d.length - x.toNat)) := by
  have hdrop : d.drop (d.length - x.toNat) = List.replicate x.toNat x :=
    List.eq_replicate_iff.2 ⟨by rw [List.length_drop]; omega, hall⟩
  refine ⟨hpos, hle, ?_⟩
  rw [BitVec.ofNat_toNat, BitVec.setWidth_eq, ← hdrop, List.take_append_drop]

section
variable {n : Nat} {d out : Bytes} (h : PaddedWith n d out)
include h

theorem PaddedWith.length_eq : d.length = out.length + n := by
  obtain ⟨-, -, rfl⟩ := h
  simp

theorem PaddedWith.toNat_ofNat : (BitVec.ofNat 8 n).toNat = n := by
  obtain ⟨-, hle, -⟩ := h
  rw [BitVec.toNat_ofNat, Nat.mod_eq_of_lt (by omega)]

theorem PaddedWith.getLast?_eq : d.getLast? = some (BitVec.ofNat 8 n) := by
  obtain ⟨hpos, -, rfl⟩ := h
  rw [List.getLast?_append, List.getLast?_replicate, if_neg (by omega)]
  rfl

theorem PaddedWith.nth_of_lt {k : Nat} (hk : k < out.length) : nth d k = nth out k := by
  obtain ⟨-, -, rfl⟩ := h
  rw [nth_append, if_pos hk]

theorem PaddedWith.nth_of_le {k : Nat} (hlo : out.length ≤ k) (hhi : k < d.length) :
    nth d k = BitVec.ofNat 8 n := by
  rw [h.length_eq] at hhi
  obtain ⟨-, -, rfl⟩ := h
  exact nth_append_replicate_of_le hlo hhi

/-- Unpad takes the padding off. -/
theorem PaddedWith.unpadBytes_eq : unpadBytes d = .ok out := by
  have hlast := h.getLast?_eq
  have hlen := h.length_eq
  have hval := h.toNat_ofNat
  obtain ⟨hpos, hle, rfl⟩ := h
  have hkeep : (out ++ List.replicate n (BitVec.ofNat 8 n)).length - n = out.length := by omega
  simp only [unpadBytes, hlast, hval, hkeep, List.drop_left, List.take_left]
  rw [if_neg (by omega), if_pos (by simp)]

end

/-- Unpad accepts padded sequences and no others. -/
theorem unpadBytes_eq_ok_iff {d out : Bytes} : unpadBytes d = .ok out ↔ ∃ n, PaddedWith n d out := by
  refine ⟨fun h => ?_, fun ⟨_, h⟩ => h.unpadBytes_eq⟩
  unfold unpadBytes at h
  split at h
  next => cases h
  next last _ =>
    dsimp only at h
    split_ifs at h with hbad hall
    cases h
    simp only [List.all_eq_true, beq_iff_eq] at hall
    exact ⟨_, paddedWith_of_forall_drop (by omega) (by omega) (by omega) hall⟩

theorem eq_invalidPadding_of_unpadBytes {d : Bytes} {e : ErrCode} (h : unpadBytes d = .error e) :
    e = .invalidPadding := by
  unfold unpadBytes at h
  split at h
  next => cases h; rfl
  next =>
    dsimp only at h
    split_ifs at h <;> cases h <;> rfl

/-- Every sequence without padding is refused with the one code. -/
theorem unpadBytes_eq_error {d : Bytes} (h : ∀ n out, ¬ PaddedWith n d out) :
    unpadBytes d = .error .invalidPadding := by
  cases hd : unpadBytes d with
  | ok out =>
    obtain ⟨n, hpad⟩ := unpadBytes_eq_ok_iff.1 hd
    exact absurd hpad (h n out)
  | error e => rw [eq_invalidPadding_of_unpadBytes hd]

/-! ### The padding of the claims, byte by byte -/

section
variable {d : Bytes} {y : Nat → Byte} {len : Nat} (hlen : d.length = len) (hy : ∀ k < len, nth d k = y k)
include hlen hy

/-- The last byte of a padded sequence is the number of its padding bytes. -/
theorem PaddedWith.toNat_last {n : Nat} {out : Bytes} (h : PaddedWith n d out) : (y (len - 1)).toNat = n := by
  have hsum := h.length_eq
  obtain ⟨hpos, -, -⟩ := id h
  rw [← hy _ (by omega), h.nth_of_le (by omega) (by omega), h.toNat_ofNat]

/-- The claims' valid padding is padding in the form of R280. -/
theorem paddingValid_iff_paddedWith : paddingValid y len ↔ ∃ n out, PaddedWith n d out := by
  subst hlen
  constructor
  · rintro ⟨hpos, hle, hfit, hall⟩
    refine ⟨_, _, paddedWith_of_forall_drop hpos hle hfit fun z hz => ?_⟩
    obtain ⟨k, hk, rfl⟩ := List.mem_drop_iff_getElem.1 hz
    rw [Nat.add_comm] at hk
    have hnth := (List.getD_eq_getElem d 0 hk).symm.trans (hy _ hk)
    exact hnth.trans (hall _ (Nat.le_add_right ..) hk)
  · rintro ⟨n, out, h⟩
    have hsum := h.length_eq
    have hlast := h.toNat_last rfl hy
    obtain ⟨hpos, hle, -⟩ := id h
    refine ⟨by omega, by omega, by omega, fun k hlo hhi => ?_⟩
    rw [← hy k hhi, ← hy _ (by omega), h.nth_of_le (by omega) hhi, h.nth_of_le (by omega) (by omega)]

end

/-! ### What PAD and UNPAD answer -/

/-- Only the bytes that reach DOUT matter. -/
theorem answersOut_congr {i : Instr} {s : State} {n : Nat} {out out' : Nat → Byte} (h : ∀ k < n, out k = out' k)
    (hans : AnswersOut i s n out) : AnswersOut i s n out' := by
  obtain ⟨t, hexec, hregs, hbytes⟩ := hans
  refine ⟨t, hexec, hregs, fun a => (hbytes a).trans ?_⟩
  unfold overlay
  split
  next ha => exact h _ (by omega)
  next => rfl

theorem answersErr_of_result {i : Instr} {s : State} {e : ErrCode} (hchecks : checks s i = .ok ())
    (hresult : result s i = .error e) : AnswersErr i s e := by
  rw [AnswersErr, exec_eq_outcome, outcome, hchecks, except_ok_bind, hresult]
  rfl

/-- A command that commits what unpad makes of `d` once its checks have passed answers as R281 says. -/
theorem answersUnpadded_of_result {i : Instr} {s : State} {d : Bytes} {y : Nat → Byte} {len : Nat}
    (hchecks : checks s i = .ok ()) (hresult : result s i = (unpadBytes d >>= fun out => .ok (.ofOut out)))
    (hlen : d.length = len) (hy : ∀ k < len, nth d k = y k) : AnswersUnpadded i s y len := by
  rw [AnswersUnpadded, paddingValid_iff_paddedWith hlen hy]
  constructor
  · rintro ⟨n, out, h⟩
    have hsum := h.length_eq
    rw [h.toNat_last hlen hy]
    refine answersOut_congr (fun k hk => ?_) (answersOut_of_result (out := out) hchecks ?_ (by omega))
    · rw [← h.nth_of_lt (by omega), hy k (by omega)]
    · rw [hresult, h.unpadBytes_eq, except_ok_bind]
  · intro hnone
    refine answersErr_of_result hchecks ?_
    rw [hresult, unpadBytes_eq_error fun n out h => hnone ⟨n, out, h⟩, except_error_bind]

theorem checkData_of_longData_eq_false {s : State} (h : longData s = false) : s.checkData = .ok () :=
  checkData_ok (longData_eq_false_iff.1 h)

theorem checkData_of_longData_eq_true {s : State} (h : longData s = true) : s.checkData = .error .range :=
  checkData_err fun hle => Bool.noConfusion ((longData_eq_false_iff.2 hle).symm.trans h)

/-! ### The statements of 45_padding.md -/

/-- Settles O45: the check decides between one commit of the padded data, whose bytes are those of R280, and the bare
RANGE. -/
theorem padCommand : Obligations.PadCommand := by
  refine ⟨decodeOfEncode .pad rfl, fun s => ⟨fun hshort => ?_, fun hlong => ?_⟩⟩
  · have hlen : (padBytes s.dataIn).length = paddedLen s := by rw [length_padBytes, length_dataIn]; rfl
    refine answersOut_congr (fun k hk => ?_)
      (answersOut_of_result (checkData_of_longData_eq_false hshort) rfl hlen)
    rw [nth_padBytes (by omega), length_dataIn, paddedByte]
    split
    next hlt => exact nth_dataIn s hlt
    next => rfl
  · exact answersErr_of_checks (checkData_of_longData_eq_true hlong)

/-- Settles O46: the check comes first, and then unpad decides on DIN[0..DLEN−1]. -/
theorem unpadCommand : Obligations.UnpadCommand :=
  ⟨decodeOfEncode .unpad rfl, fun s =>
    ⟨fun hshort => answersUnpadded_of_result (checkData_of_longData_eq_false hshort) rfl (length_dataIn s)
      fun _ hk => nth_dataIn s hk,
    fun hlong => answersErr_of_checks (checkData_of_longData_eq_true hlong)⟩⟩

/-- Settles O47: unpad accepts exactly the padded sequences, of which the last byte is 1 to 16. -/
theorem unpadInvertsPad : Obligations.UnpadInvertsPad := by
  refine ⟨fun d => (paddedWith_padBytes d).unpadBytes_eq, fun d last hlast hbad => ?_,
    fun _ _ => eq_invalidPadding_of_unpadBytes, fun _ _ => unpadBytes_eq_ok_iff.1⟩
  refine unpadBytes_eq_error fun n out h => ?_
  have hval := h.toNat_ofNat
  obtain rfl : last = BitVec.ofNat 8 n := Option.some.inj (hlast.symm.trans h.getLast?_eq)
  obtain ⟨hpos, hle, -⟩ := h
  rcases hbad with hzero | hbig
  · have hn : n = 0 := hval.symm.trans (congrArg BitVec.toNat hzero)
    omega
  · omega

end Sys2Proof.Machine
end

section
/-! PROOFS. Family 46_modes.md: the block modes as loops over blocks, the mode commands, and the words of an
unrecognised mode. -/

namespace Sys2Proof.Machine

open Sys2Proof Sys2Proof.Claims

/-! ### Loops over blocks -/

/-- `g` goes over a list of blocks and lays their pieces end to end; `a` is what it carries from block to block. -/
structure IsLoop {σ : Type} (g : σ → List Bytes → Bytes) (piece : σ → Bytes → Bytes) (next : σ → Bytes → σ) : Prop where
  nil : ∀ a, g a [] = []
  cons : ∀ a x xs, g a (x :: xs) = piece a x ++ g (next a x) xs

/-- Induction over the blocks of a sequence: a non-empty one has a first block and a rest. -/
theorem blocks_induction {P : Bytes → Prop} (hnil : P []) (hcons : ∀ x, x ≠ [] → P (x.drop 16) → P x) (x : Bytes) :
    P x := by
  by_cases hx : x = []
  · exact hx ▸ hnil
  · exact hcons x hx (blocks_induction hnil hcons (x.drop 16))
termination_by x.length
decreasing_by
  have hpos := List.length_pos_iff.2 hx
  rw [List.length_drop]
  omega

/-- The first block of `p ++ r` is `p`, when `p` is a full block or the last one. -/
theorem blocks_append {p r : Bytes} (hne : p ≠ []) (hle : p.length ≤ 16) (hfull : p.length = 16 ∨ r = []) :
    blocks (p ++ r) = p :: blocks r := by
  rw [blocks_cons _ (List.append_ne_nil_of_left_ne_nil hne r)]
  rcases hfull with hlen | rfl
  · rw [List.take_left' hlen, List.drop_left' hlen]
  · rw [List.append_nil, List.take_of_length_le hle, List.drop_of_length_le hle]

/-! ### Streams (R305, R308, R310) -/

theorem xorBytes_cancel_right {a k : Bytes} (h : a.length ≤ k.length) : xorBytes (xorBytes a k) k = a := by
  refine List.ext_getElem (by simp [h]) fun j _ _ => ?_
  simp [xorBytes]

section
variable {e : Bytes → Bytes}

theorem isLoop_ctrBlocks (nonce : Bytes) :
    IsLoop (ctrBlocks e nonce) (fun j x => xorBytes x (e (nonce ++ be32 (BitVec.ofNat 32 j)))) (fun j _ => j + 1) :=
  ⟨fun _ => rfl, fun _ _ _ => rfl⟩

theorem isLoop_cfbEncBlocks :
    IsLoop (cfbEncBlocks e) (fun fb x => xorBytes x (e fb)) (fun fb x => xorBytes x (e fb)) :=
  ⟨fun _ => rfl, fun _ _ _ => rfl⟩

theorem isLoop_cfbDecBlocks : IsLoop (cfbDecBlocks e) (fun fb x => xorBytes x (e fb)) (fun _ x => x) :=
  ⟨fun _ => rfl, fun _ _ _ => rfl⟩

theorem isLoop_ofbBlocks : IsLoop (ofbBlocks e) (fun fb x => xorBytes x (e fb)) (fun fb _ => e fb) :=
  ⟨fun _ => rfl, fun _ _ _ => rfl⟩

end

/-- A stream is undone by a stream that makes the same keystream: both XOR `ks a` to the block, and the second makes of
the ciphertext what the first makes of the plaintext to go on with. -/
theorem stream_round_trip {σ : Type} {g h : σ → List Bytes → Bytes} {ks : σ → Bytes} {next next' : σ → Bytes → σ}
    (hg : IsLoop g (fun a x => xorBytes x (ks a)) next) (hh : IsLoop h (fun a x => xorBytes x (ks a)) next')
    (hks : ∀ a, (ks a).length = 16) (hnext : ∀ a x, next' a (xorBytes x (ks a)) = next a x) (a : σ) (x : Bytes) :
    h a (blocks (g a (blocks x))) = x := by
  induction x using blocks_induction generalizing a with
  | hnil => rw [blocks_nil, hg.nil, blocks_nil, hh.nil]
  | hcons x hx ih =>
    have hpos := List.length_pos_iff.2 hx
    have hpiece : (xorBytes (x.take 16) (ks a)).length = min 16 x.length := by simp [hks]
    have hne : xorBytes (x.take 16) (ks a) ≠ [] := List.length_pos_iff.1 (by omega)
    have hfull : (xorBytes (x.take 16) (ks a)).length = 16 ∨ g (next a (x.take 16)) (blocks (x.drop 16)) = [] := by
      rcases Nat.lt_or_ge x.length 16 with hshort | hlong
      · exact .inr (by rw [List.drop_of_length_le hshort.le, blocks_nil, hg.nil])
      · exact .inl (by omega)
    rw [blocks_cons x hx, hg.cons, blocks_append hne (by omega) hfull, hh.cons, hnext, ih,
      xorBytes_cancel_right (by rw [hks]; exact List.length_take_le ..), List.take_append_drop]

/-! ### E and D give blocks -/

section
variable {key : Bytes} (hk : aesKeyLength key.length) (b : Bytes)
include hk

/-- E gives 16 bytes, whatever it is given: its last ShiftRows does. -/
theorem length_encryptBlock_of_key : (encryptBlock key b).length = 16 := by
  rw [encryptBlock, encSteps, runSteps_append]
  simp [runSteps, CipherStep.apply, addRoundKey, length_roundKey hk le_rfl]

/-- D gives 16 bytes, whatever it is given: its last InvShiftRows does. -/
theorem length_decryptBlock_of_key : (decryptBlock key b).length = 16 := by
  rw [decryptBlock, decSteps, runSteps_append]
  simp [runSteps, CipherStep.apply, addRoundKey, length_roundKey hk (Nat.zero_le _)]

end

/-! ### The streams round-trip (R321) -/

/-- Settles O56: in each mode both directions make the same keystream, which decryption takes off again. -/
theorem streamModesRoundTrip : Obligations.StreamModesRoundTrip := by
  intro key iv nonce x hk _ _
  have hE := length_encryptBlock_of_key hk
  exact ⟨stream_round_trip (isLoop_ctrBlocks nonce) (isLoop_ctrBlocks nonce) (fun _ => hE _) (fun _ _ => rfl) 0 x,
    stream_round_trip isLoop_cfbEncBlocks isLoop_cfbDecBlocks hE (fun _ _ => rfl) iv x,
    stream_round_trip isLoop_ofbBlocks isLoop_ofbBlocks hE (fun _ _ => rfl) iv x⟩

/-! ### Byte sequences that the claims read byte by byte -/

/-- `x` is the sequence y(0) … y(n − 1). -/
structure ReadsAs (x : Bytes) (n : Nat) (y : Nat → Byte) : Prop where
  length : x.length = n
  nth_eq : ∀ k < n, nth x k = y k

theorem getElem_eq_nth {x : Bytes} {k : Nat} (hk : k < x.length) : x[k] = nth x k := (List.getD_eq_getElem x 0 hk).symm

/-- Block `j` of a sequence. -/
def blockAt (x : Bytes) (j : Nat) : Bytes := (x.drop (16 * j)).take 16

theorem length_blockAt (x : Bytes) (j : Nat) : (blockAt x j).length = min 16 (x.length - 16 * j) := by
  simp [blockAt]

theorem blockAt_drop (x : Bytes) (j : Nat) : blockAt (x.drop 16) j = blockAt x (j + 1) := by
  rw [blockAt, blockAt, List.drop_drop, Nat.mul_succ, Nat.add_comm]

theorem nth_blockAt (x : Bytes) (j : Nat) {m : Nat} (hm : m < 16) : nth (blockAt x j) m = nth x (16 * j + m) := by
  simp [nth, blockAt, List.getD_eq_getElem?_getD, hm]

@[simp] theorem length_blockOf (f : Nat → Byte) (j : Nat) : (blockOf f j).length = 16 := by simp [blockOf]

theorem ReadsAs.blockAt_eq {x : Bytes} {n : Nat} {y : Nat → Byte} (hx : ReadsAs x n y) {j : Nat}
    (hj : 16 * j + 16 ≤ n) : blockAt x j = blockOf y j := by
  have hlen : (blockAt x j).length = 16 := by rw [length_blockAt, hx.length]; omega
  refine List.ext_getElem (by simp [hlen]) fun m hm _ => ?_
  rw [getElem_eq_nth hm, nth_blockAt x j (by omega), hx.nth_eq _ (by omega)]
  simp [blockOf]

theorem ReadsAs.map_range {x : Bytes} {n : Nat} {y : Nat → Byte} (hx : ReadsAs x n y) : (List.range n).map y = x := by
  refine List.ext_getElem (by simp [hx.length]) fun k hk hk' => ?_
  rw [List.getElem_map, List.getElem_range, getElem_eq_nth hk', hx.nth_eq k (by simpa using hk)]

theorem readsAs_dataIn (s : State) : ReadsAs s.dataIn s.dlen.toNat (dinByte s) :=
  ⟨length_dataIn s, fun _ => nth_dataIn s⟩

theorem readsAs_padBytes (s : State) : ReadsAs (padBytes s.dataIn) (paddedLen s) (paddedByte s) := by
  have hlen : (padBytes s.dataIn).length = paddedLen s := by rw [length_padBytes, length_dataIn]; rfl
  refine ⟨hlen, fun k hk => ?_⟩
  rw [nth_padBytes (by omega), length_dataIn, paddedByte]
  split
  next hlt => exact nth_dataIn s hlt
  next => rfl

theorem paddedLen_mod (s : State) : paddedLen s % 16 = 0 := by
  unfold paddedLen
  omega

/-! ### The bytes of a loop -/

/-- A first piece, a full block unless the data end in it, and the bytes of the later blocks behind it. -/
theorem ReadsAs.append {b : Nat → Bytes} {r : Bytes} {n : Nat} (hfirst : (b 0).length = min 16 n)
    (hrest : ReadsAs r (n - 16) (byteOfBlocks fun j => b (j + 1))) : ReadsAs (b 0 ++ r) n (byteOfBlocks b) := by
  have hlen := hrest.length
  refine ⟨by rw [List.length_append]; omega, fun k hk => ?_⟩
  rw [nth_append, hfirst]
  split
  next hlt => rw [byteOfBlocks, Nat.div_eq_of_lt (by omega), Nat.mod_eq_of_lt (by omega)]
  next hge =>
    have hmin : min 16 n = 16 := by omega
    obtain ⟨m, rfl⟩ := Nat.exists_eq_add_of_le' (show 16 ≤ k by omega)
    rw [hmin, Nat.add_sub_cancel, hrest.nth_eq m (by omega), byteOfBlocks, byteOfBlocks,
      Nat.add_div_right m (by decide), Nat.add_mod_right]

section
variable {σ : Type} {g : σ → List Bytes → Bytes} {next : σ → Bytes → σ} {st : Nat → σ}

/-- The first piece of a loop; `st 1` is what it carries to the second block, if there is one. -/
theorem IsLoop.eq_append {piece : σ → Bytes → Bytes} (hg : IsLoop g piece next) {x : Bytes} (hx : x ≠ [])
    (hst : 16 < x.length → next (st 0) (blockAt x 0) = st 1) :
    g (st 0) (blocks x) = piece (st 0) (blockAt x 0) ++ g (st 1) (blocks (x.drop 16)) := by
  have hcarry : g (next (st 0) (blockAt x 0)) (blocks (x.drop 16)) = g (st 1) (blocks (x.drop 16)) := by
    rcases Nat.lt_or_ge 16 x.length with hlong | hshort
    · rw [hst hlong]
    · rw [List.drop_of_length_le hshort, blocks_nil, hg.nil, hg.nil]
  rw [← hcarry, blocks_cons x hx, hg.cons]
  rfl

/-- When the piece of each block is as long as the block, byte `k` of the result is byte `k % 16` of piece `k / 16`;
`st j` is what the loop carries to block `j`. -/
theorem IsLoop.readsAs {piece : σ → Bytes → Bytes} (hg : IsLoop g piece next) {x : Bytes}
    (hst : ∀ j, 16 * j + 16 < x.length → next (st j) (blockAt x j) = st (j + 1))
    (hpiece : ∀ j, 16 * j < x.length → (piece (st j) (blockAt x j)).length = (blockAt x j).length) :
    ReadsAs (g (st 0) (blocks x)) x.length (byteOfBlocks fun j => piece (st j) (blockAt x j)) := by
  induction x using blocks_induction generalizing st with
  | hnil => exact ⟨by rw [blocks_nil, hg.nil], fun k hk => absurd hk (Nat.not_lt_zero k)⟩
  | hcons x hx ih =>
    have hlen : (x.drop 16).length = x.length - 16 := List.length_drop
    have hrest := ih (st := fun j => st (j + 1))
      (fun j hj => by rw [blockAt_drop]; exact hst (j + 1) (by omega))
      (fun j hj => by rw [blockAt_drop]; exact hpiece (j + 1) (by omega))
    simp only [blockAt_drop, hlen] at hrest
    have hfirst := hpiece 0 (List.length_pos_iff.2 hx)
    rw [length_blockAt, Nat.mul_zero, Nat.sub_zero] at hfirst
    rw [hg.eq_append hx (hst 0)]
    exact ReadsAs.append (b := fun j => piece (st j) (blockAt x j)) hfirst hrest

/-- A stream XORs its keystream to the data, byte by byte, the last block being as short as the data end. -/
theorem IsLoop.readsAs_stream {ks : σ → Bytes} (hg : IsLoop g (fun a x => xorBytes x (ks a)) next)
    (hks : ∀ a, (ks a).length = 16) {x : Bytes} {n : Nat} {y : Nat → Byte} (hx : ReadsAs x n y)
    (hst : ∀ j, next (st j) (blockOf y j) = st (j + 1)) {key : Nat → Bytes}
    (hkey : ∀ j, 16 * j < n → ks (st j) = key j) :
    ReadsAs (g (st 0) (blocks x)) n (fun k => y k ^^^ byteOfBlocks key k) := by
  obtain ⟨hlen, hnth⟩ := hg.readsAs (st := st) (x := x)
    (fun j hj => by rw [hx.blockAt_eq (by rw [← hx.length]; omega), hst])
    (fun j _ => by rw [length_xorBytes, hks, length_blockAt]; omega)
  rw [hx.length] at hlen hnth
  refine ⟨hlen, fun k hk => ?_⟩
  have hblock : k % 16 < (blockAt x (k / 16)).length := by rw [length_blockAt, hx.length]; omega
  rw [hnth k hk, byteOfBlocks, nth_xorBytes hblock (by rw [hks]; omega), nth_blockAt x _ (by omega), Nat.div_add_mod,
    hx.nth_eq k hk, hkey _ (by omega), byteOfBlocks]

/-- A loop over full blocks whose piece for each of them is a block again lays these blocks end to end. -/
theorem IsLoop.readsAs_blocks {piece : σ → Bytes → Bytes} (hg : IsLoop g piece next) {x : Bytes} {n : Nat}
    {y : Nat → Byte} (hx : ReadsAs x n y) (hn : n % 16 = 0) {b : Nat → Bytes}
    (hst : ∀ j, next (st j) (blockOf y j) = st (j + 1)) (hb : ∀ j, piece (st j) (blockOf y j) = b j)
    (hlen : ∀ j, (b j).length = 16) : ReadsAs (g (st 0) (blocks x)) n (byteOfBlocks b) := by
  have hblock : ∀ j, 16 * j < n → blockAt x j = blockOf y j := fun j hj => hx.blockAt_eq (by omega)
  obtain ⟨hlen, hnth⟩ := hg.readsAs (st := st) (x := x)
    (fun j hj => by rw [hx.length] at hj; rw [hblock j (by omega), hst])
    (fun j hj => by rw [hx.length] at hj; rw [hblock j hj, hb, hlen, length_blockOf])
  rw [hx.length] at hlen hnth
  refine ⟨hlen, fun k hk => ?_⟩
  rw [hnth k hk, byteOfBlocks, hblock _ (by omega), hb, byteOfBlocks]

end

/-! ### The checks of the mode commands (R300) -/

theorem checkMode_eq_raised (s : State) (own : List (Bool × ErrCode)) :
    s.checkMode (raised (firstError own)) =
      raised (firstError ((badKey s, .keyLength) :: (longData s, .range) :: own)) := by
  rw [raised_firstError_cons badKey_eq_false_iff, raised_firstError_cons longData_eq_false_iff]
  rfl

theorem badXtsKey_eq_false_iff {s : State} : badXtsKey s = false ↔ xtsKeyLength s.keylen.toNat := by
  simp [badXtsKey, xtsKeyLength, BitVec.toNat_eq, or_iff_not_imp_left]

theorem checkXts_eq_raised (s : State) (own : List (Bool × ErrCode)) :
    s.checkXts (raised (firstError own)) =
      raised (firstError ((badXtsKey s, .keyLength) :: (longData s, .range) :: own)) := by
  rw [raised_firstError_cons badXtsKey_eq_false_iff, raised_firstError_cons longData_eq_false_iff]
  rfl

theorem ivlen_bne_eq_false_iff {s : State} {n : Nat} (hn : n < 32) :
    (s.ivlen != BitVec.ofNat 5 n) = false ↔ s.ivlen.toNat = n := by
  simp [BitVec.toNat_eq, Nat.mod_eq_of_lt hn]

theorem checkIv_eq_raised (s : State) : s.checkIv = raised (firstError [(s.ivlen != 16, .ivLength)]) :=
  (raised_firstError_singleton (ivlen_bne_eq_false_iff (by decide)) _).symm

theorem checkNonce_eq_raised (s : State) : s.checkNonce = raised (firstError [(s.ivlen != 12, .nonceLength)]) :=
  (raised_firstError_singleton (ivlen_bne_eq_false_iff (by decide)) _).symm

theorem checkBlocks_eq_raised (s : State) : s.checkBlocks = raised (firstError [(raggedData s, .blockLength)]) :=
  (raised_firstError_singleton (by simp [raggedData]) _).symm

theorem checks_eq_ecbEncChecks (s : State) : checks s .ecbEnc = raised (ecbEncChecks s) := checkMode_eq_raised s []

theorem checks_eq_ecbDecChecks (s : State) : checks s .ecbDec = raised (ecbDecChecks s) := by
  rw [checks, checkBlocks_eq_raised, checkMode_eq_raised, ecbDecChecks]

theorem checkMode_checkIv_eq_raised (s : State) : s.checkMode s.checkIv = raised (ivChecks s) := by
  rw [checkIv_eq_raised, checkMode_eq_raised, ivChecks]

theorem checks_eq_cbcDecChecks (s : State) : checks s .cbcDec = raised (cbcDecChecks s) := by
  rw [checks, checkBlocks_eq_raised, cbcDecChecks, ← checkMode_eq_raised]
  exact congrArg s.checkMode (raised_firstError_cons (ivlen_bne_eq_false_iff (by decide)) _ _).symm

theorem checkMode_checkNonce_eq_raised (s : State) : s.checkMode s.checkNonce = raised (nonceChecks s) := by
  rw [checkNonce_eq_raised, checkMode_eq_raised, nonceChecks]

theorem checks_eq_xtsEncChecks (s : State) : checks s .xtsEnc = raised (xtsEncChecks s) := checkXts_eq_raised s []

theorem checks_eq_xtsDecChecks (s : State) : checks s .xtsDec = raised (xtsDecChecks s) := by
  rw [checks, checkBlocks_eq_raised, checkXts_eq_raised, xtsDecChecks]

theorem checkGcm_eq_raised (s : State) : s.checkGcm = raised (gcmChecks s) := by
  have hrange : (longData s || longAad s) = false ↔ s.dlen.toNat ≤ Config.maxData ∧ s.aadlen.toNat ≤ Config.maxAad := by
    simp [longData, longAad, Config.maxData, Config.maxAad]
  rw [gcmChecks, raised_firstError_cons badKey_eq_false_iff, raised_firstError_cons hrange,
    ← checkNonce_eq_raised]
  rfl

section
variable (i : Instr) {s : State} {c : Option ErrCode} (hchecks : checks s i = raised c)
include hchecks

theorem checks_ok_of_eq_raised (hpass : c = none) : checks s i = .ok () := by rw [hchecks, hpass, raised]

theorem answersErr_of_eq_raised {e : ErrCode} (hfail : c = some e) : AnswersErr i s e :=
  answersErr_of_checks (by rw [hchecks, hfail, raised])

end

section
variable (i : Instr) {s : State} (hchecks : checks s i = .ok ())
include hchecks

theorem answersOut_of_readsAs {out : Bytes} {n : Nat} {y : Nat → Byte} (hout : ReadsAs out n y)
    (hresult : result s i = .ok (.ofOut out)) : AnswersOut i s n y :=
  answersOut_congr hout.nth_eq (answersOut_of_result hchecks hresult hout.length)

theorem answersUnpadded_of_readsAs {out : Bytes} {n : Nat} {y : Nat → Byte} (hout : ReadsAs out n y)
    (hresult : result s i = (unpadBytes out >>= fun plain => .ok (.ofOut plain))) : AnswersUnpadded i s y n :=
  answersUnpadded_of_result hchecks hresult hout.length hout.nth_eq

end

theorem own_of_checkMode {own : Except ErrCode Unit} {s : State} (h : s.checkMode own = .ok ()) : own = .ok () :=
  (except_seq_eq_ok.1 (except_seq_eq_ok.1 h).2).2

theorem own_of_checkXts {own : Except ErrCode Unit} {s : State} (h : s.checkXts own = .ok ()) : own = .ok () :=
  (except_seq_eq_ok.1 (except_seq_eq_ok.1 h).2).2

section
variable {s : State} (hk : aesKeyLength s.keylen.toNat) (b : Bytes)
include hk

theorem length_E : (E s b).length = 16 := length_encryptBlock_of_key (by rwa [length_keyBytes]) b

theorem length_D : (D s b).length = 16 := length_decryptBlock_of_key (by rwa [length_keyBytes]) b

end

/-! ### ECB and CBC (R301 to R304) -/

theorem isLoop_flatMap (f : Bytes → Bytes) :
    IsLoop (fun (_ : Unit) xs => xs.flatMap f) (fun _ x => f x) (fun a _ => a) :=
  ⟨fun _ => rfl, fun _ _ _ => rfl⟩

theorem isLoop_cbcEncBlocks (e : Bytes → Bytes) :
    IsLoop (cbcEncBlocks e) (fun prev x => e (xorBytes x prev)) (fun prev x => e (xorBytes x prev)) :=
  ⟨fun _ => rfl, fun _ _ _ => rfl⟩

theorem isLoop_cbcDecBlocks (d : Bytes → Bytes) :
    IsLoop (cbcDecBlocks d) (fun prev x => xorBytes (d x) prev) (fun _ x => x) :=
  ⟨fun _ => rfl, fun _ _ _ => rfl⟩

/-- What CBC, CFB and OFB feed back to block `j`: block `j - 1` of `c`, and IV to the first block. -/
def feedback (s : State) (c : Nat → Bytes) : Nat → Bytes
  | 0 => s.ivBytes
  | j + 1 => c j

theorem readsAs_ecbBlocks {f : Bytes → Bytes} (hf : ∀ b, (f b).length = 16) {x : Bytes} {n : Nat} {y : Nat → Byte}
    (hx : ReadsAs x n y) (hn : n % 16 = 0) : ReadsAs (ecbBlocks f x) n (byteOfBlocks fun j => f (blockOf y j)) :=
  (isLoop_flatMap f).readsAs_blocks (st := fun _ => ()) hx hn (fun _ => rfl) (fun _ => rfl) fun _ => hf _

/-- Settles O48: ECB lays the block ciphers of its blocks end to end. -/
theorem ecbCommands : Obligations.EcbCommands := by
  refine ⟨decodeOfEncode .ecbEnc rfl, decodeOfEncode .ecbDec rfl, fun s => ⟨fun hpass => ?_,
    fun _ => answersErr_of_eq_raised .ecbEnc (checks_eq_ecbEncChecks s), fun hpass => ?_,
    fun _ => answersErr_of_eq_raised .ecbDec (checks_eq_ecbDecChecks s)⟩⟩
  · have hchecks := checks_ok_of_eq_raised .ecbEnc (checks_eq_ecbEncChecks s) hpass
    obtain ⟨hk, -⟩ := lengths_of_checkMode hchecks
    exact answersOut_of_readsAs .ecbEnc hchecks
      (readsAs_ecbBlocks (length_E hk) (readsAs_padBytes s) (paddedLen_mod s)) rfl
  · have hchecks := checks_ok_of_eq_raised .ecbDec (checks_eq_ecbDecChecks s) hpass
    have hfull : s.dlen.toNat % 16 = 0 := require_ok_iff.1 (own_of_checkMode hchecks)
    obtain ⟨hk, -⟩ := lengths_of_checkMode hchecks
    exact answersUnpadded_of_readsAs .ecbDec hchecks (readsAs_ecbBlocks (length_D hk) (readsAs_dataIn s) hfull) rfl

theorem cbcCipher_eq (s : State) (j : Nat) :
    cbcCipher s j = E s (xorBytes (blockOf (paddedByte s) j) (feedback s (cbcCipher s) j)) := by
  cases j <;> rfl

theorem cbcPlain_eq (s : State) (j : Nat) :
    cbcPlain s j = xorBytes (D s (blockOf (dinByte s) j)) (feedback s (blockOf (dinByte s)) j) := by
  cases j <;> rfl

@[simp] theorem length_ivBytes (s : State) : s.ivBytes.length = 16 := length_buf ..

theorem length_feedback (s : State) {c : Nat → Bytes} (hc : ∀ j, (c j).length = 16) (j : Nat) :
    (feedback s c j).length = 16 := by
  cases j with
  | zero => exact length_ivBytes s
  | succ j => exact hc j

/-- Settles O49: encryption carries the ciphertext block it has just made, decryption the one it has just read. -/
theorem cbcCommands : Obligations.CbcCommands := by
  refine ⟨decodeOfEncode .cbcEnc rfl, decodeOfEncode .cbcDec rfl, fun s => ⟨fun hpass => ?_,
    fun _ => answersErr_of_eq_raised .cbcEnc (checkMode_checkIv_eq_raised s), fun hpass => ?_,
    fun _ => answersErr_of_eq_raised .cbcDec (checks_eq_cbcDecChecks s)⟩⟩
  · have hchecks := checks_ok_of_eq_raised .cbcEnc (checkMode_checkIv_eq_raised s) hpass
    obtain ⟨hk, -⟩ := lengths_of_checkMode hchecks
    have hcipher : ∀ j, (cbcCipher s j).length = 16 := fun j => by rw [cbcCipher_eq, length_E hk]
    have hout := (isLoop_cbcEncBlocks (E s)).readsAs_blocks (st := feedback s (cbcCipher s)) (readsAs_padBytes s)
      (paddedLen_mod s) (fun j => (cbcCipher_eq s j).symm) (fun j => (cbcCipher_eq s j).symm) hcipher
    exact answersOut_of_readsAs .cbcEnc hchecks hout rfl
  · have hchecks := checks_ok_of_eq_raised .cbcDec (checks_eq_cbcDecChecks s) hpass
    have hfull : s.dlen.toNat % 16 = 0 := require_ok_iff.1 (except_seq_eq_ok.1 (own_of_checkMode hchecks)).2
    obtain ⟨hk, -⟩ := lengths_of_checkMode hchecks
    have hplain : ∀ j, (cbcPlain s j).length = 16 := fun j => by
      rw [cbcPlain_eq, length_xorBytes, length_D hk, length_feedback s (length_blockOf _), min_self]
    have hout := (isLoop_cbcDecBlocks (D s)).readsAs_blocks (st := feedback s (blockOf (dinByte s))) (readsAs_dataIn s)
      hfull (fun _ => rfl) (fun j => (cbcPlain_eq s j).symm) hplain
    exact answersUnpadded_of_readsAs .cbcDec hchecks hout rfl

/-! ### CTR, CFB and OFB (R305 to R311) -/

/-- The counters of 4096 bytes of data fit two bytes (R305). -/
theorem be32_counter {j : Nat} (hj : j < 2 ^ 16) :
    be32 (BitVec.ofNat 32 j) = [0, 0, BitVec.ofNat 8 (j / 256), BitVec.ofNat 8 j] := by
  have hmod : j % 2 ^ 32 = j := Nat.mod_eq_of_lt (by omega)
  have hhigh : j / 2 ^ 24 = 0 ∧ j / 2 ^ 16 = 0 := by omega
  simp only [be32, List.cons.injEq, ← BitVec.toNat_inj, BitVec.extractLsb'_toNat, BitVec.toNat_ofNat,
    Nat.shiftRight_eq_div_pow, hmod, hhigh]
  simp

theorem ctrKey_eq (s : State) {j : Nat} (hj : j < 2 ^ 16) : E s (s.nonce ++ be32 (BitVec.ofNat 32 j)) = ctrKey s j := by
  rw [be32_counter hj]
  rfl

/-- The bytes of CTR in the words of R305. -/
theorem readsAs_ctrStream {s : State} (hk : aesKeyLength s.keylen.toNat) (hd : s.dlen.toNat ≤ 4096) :
    ReadsAs (ctrStream (E s) s.nonce s.dataIn) s.dlen.toNat (streamByte s (ctrKey s)) :=
  (isLoop_ctrBlocks s.nonce).readsAs_stream (st := fun j => j) (fun _ => length_E hk _) (readsAs_dataIn s)
    (fun _ => rfl) fun _ hj => ctrKey_eq s (by omega)

/-- Settles O50: one stream for both directions. -/
theorem ctrCommands : Obligations.CtrCommands := by
  refine ⟨decodeOfEncode .ctrEnc rfl, decodeOfEncode .ctrDec rfl, fun s => ⟨fun hpass => ?_, fun e hfail => ?_⟩⟩
  · have hchecks : s.checkMode s.checkNonce = .ok () :=
      checks_ok_of_eq_raised .ctrEnc (checkMode_checkNonce_eq_raised s) hpass
    obtain ⟨hk, hd⟩ := lengths_of_checkMode hchecks
    have hout := readsAs_ctrStream hk hd
    exact ⟨answersOut_of_readsAs .ctrEnc hchecks hout rfl, answersOut_of_readsAs .ctrDec hchecks hout rfl⟩
  · exact ⟨answersErr_of_eq_raised .ctrEnc (checkMode_checkNonce_eq_raised s) hfail,
      answersErr_of_eq_raised .ctrDec (checkMode_checkNonce_eq_raised s) hfail⟩

theorem cfbEncKey_eq (s : State) (j : Nat) :
    cfbEncKey s j = E s (feedback s (fun i => xorBytes (blockOf (dinByte s) i) (cfbEncKey s i)) j) := by
  cases j <;> rfl

theorem cfbDecKey_eq (s : State) (j : Nat) : cfbDecKey s j = E s (feedback s (blockOf (dinByte s)) j) := by
  cases j <;> rfl

theorem ofbKey_eq (s : State) (j : Nat) : ofbKey s j = E s (feedback s (ofbKey s) j) := by
  cases j <;> rfl

/-- Settles O51: the ciphertext that is fed back is the one made in encryption and the one given in decryption. -/
theorem cfbCommands : Obligations.CfbCommands := by
  refine ⟨decodeOfEncode .cfbEnc rfl, decodeOfEncode .cfbDec rfl, fun s => ⟨fun hpass => ?_, fun e hfail => ?_⟩⟩
  · have hchecks : s.checkMode s.checkIv = .ok () :=
      checks_ok_of_eq_raised .cfbEnc (checkMode_checkIv_eq_raised s) hpass
    have hE := length_E (lengths_of_checkMode hchecks).1
    have henc := isLoop_cfbEncBlocks.readsAs_stream
      (st := feedback s fun j => xorBytes (blockOf (dinByte s) j) (cfbEncKey s j)) hE (readsAs_dataIn s)
      (fun j => by rw [feedback, cfbEncKey_eq]) fun j _ => (cfbEncKey_eq s j).symm
    have hdec := isLoop_cfbDecBlocks.readsAs_stream (st := feedback s (blockOf (dinByte s))) hE (readsAs_dataIn s)
      (fun _ => rfl) fun j _ => (cfbDecKey_eq s j).symm
    exact ⟨answersOut_of_readsAs .cfbEnc hchecks henc rfl, answersOut_of_readsAs .cfbDec hchecks hdec rfl⟩
  · exact ⟨answersErr_of_eq_raised .cfbEnc (checkMode_checkIv_eq_raised s) hfail,
      answersErr_of_eq_raised .cfbDec (checkMode_checkIv_eq_raised s) hfail⟩

/-- Settles O52: one stream for both directions, and its keystream is fed back. -/
theorem ofbCommands : Obligations.OfbCommands := by
  refine ⟨decodeOfEncode .ofbEnc rfl, decodeOfEncode .ofbDec rfl, fun s => ⟨fun hpass => ?_, fun e hfail => ?_⟩⟩
  · have hchecks : s.checkMode s.checkIv = .ok () :=
      checks_ok_of_eq_raised .ofbEnc (checkMode_checkIv_eq_raised s) hpass
    obtain ⟨hk, -⟩ := lengths_of_checkMode hchecks
    have hout := isLoop_ofbBlocks.readsAs_stream (st := feedback s (ofbKey s)) (length_E hk) (readsAs_dataIn s)
      (fun j => (ofbKey_eq s j).symm) fun j _ => (ofbKey_eq s j).symm
    exact ⟨answersOut_of_readsAs .ofbEnc hchecks hout rfl, answersOut_of_readsAs .ofbDec hchecks hout rfl⟩
  · exact ⟨answersErr_of_eq_raised .ofbEnc (checkMode_checkIv_eq_raised s) hfail,
      answersErr_of_eq_raised .ofbDec (checkMode_checkIv_eq_raised s) hfail⟩

/-! ### The doubling of a tweak (R313) -/

@[simp] theorem length_shiftLeftBytes (carry : Bool) (t : Bytes) : (shiftLeftBytes carry t).length = t.length := by
  induction t generalizing carry with
  | nil => rfl
  | cons b bs ih => rw [shiftLeftBytes, List.length_cons, ih, List.length_cons]

@[simp] theorem length_mulAlpha (t : Bytes) : (mulAlpha t).length = t.length := by
  unfold mulAlpha
  split <;> simp

theorem getLsbD_seven (b : Byte) : b.getLsbD 7 = decide (128 ≤ b.toNat) := by
  revert b
  decide

theorem toNat_getLsbD_seven (b : Byte) : (b.getLsbD 7).toNat = b.toNat / 128 := by
  revert b
  decide

theorem toNat_shiftLeft_or_carry (b : Byte) (carry : Bool) :
    (b <<< 1 ||| (BitVec.ofBool carry).setWidth 8).toNat = (2 * b.toNat + carry.toNat) % 256 := by
  revert b
  cases carry <;> decide

/-- Shifting every byte, with the carries between them, doubles the number and drops the last carry (R313). -/
theorem leNat_shiftLeftBytes (carry : Bool) (t : Bytes) :
    leNat (shiftLeftBytes carry t) = (2 * leNat t + carry.toNat) % 256 ^ t.length := by
  induction t generalizing carry with
  | nil => simp [shiftLeftBytes, leNat, Nat.mod_one]
  | cons b bs ih =>
    have hb := b.isLt
    have hcarry : carry.toNat ≤ 1 := Bool.toNat_le carry
    have hbit : (b.getLsbD 7).toNat = (2 * b.toNat + carry.toNat) / 256 := by
      rw [toNat_getLsbD_seven]
      omega
    have hhigh : (2 * leNat (b :: bs) + carry.toNat) / 256 = 2 * leNat bs + (b.getLsbD 7).toNat := by
      rw [leNat, hbit]; omega
    have hlow : (2 * leNat (b :: bs) + carry.toNat) % 256 = (2 * b.toNat + carry.toNat) % 256 := by
      rw [leNat]; omega
    rw [shiftLeftBytes, leNat, toNat_shiftLeft_or_carry, ih, List.length_cons, Nat.pow_succ', Nat.mod_mul, hhigh, hlow]

/-- The bit that the shift drops is the top bit of the number (R313). -/
theorem getLsbD_getLastD {t : Bytes} {n : Nat} (ht : t.length = n + 1) :
    (t.getLastD 0).getLsbD 7 = decide (128 * 256 ^ n ≤ leNat t) := by
  obtain ⟨init, last, rfl⟩ := List.eq_nil_or_concat' t |>.resolve_left (List.ne_nil_of_length_eq_add_one ht)
  obtain rfl : init.length = n := by simpa using ht
  have hinit := leNat_lt init
  rw [List.getLastD_concat, getLsbD_seven, leNat_concat]
  refine decide_eq_decide.2 ⟨fun h => le_add_left (Nat.mul_le_mul_right _ h), fun h => ?_⟩
  by_contra hsmall
  have hle := Nat.mul_le_mul_right (256 ^ init.length) (Nat.le_of_lt_succ (Nat.not_le.1 hsmall))
  omega

/-- XOR into byte 0 is XOR with a small number. -/
theorem leNat_xorFirst (c : Byte) {t : Bytes} (ht : t ≠ []) : leNat (xorFirst c t) = leNat t ^^^ c.toNat := by
  obtain ⟨b, bs, rfl⟩ := List.exists_cons_of_ne_nil ht
  have hb := b.isLt
  have hc := c.isLt
  rw [xorFirst, leNat, leNat, BitVec.toNat_xor]
  have hmod : ((b.toNat + 256 * leNat bs) ^^^ c.toNat) % 2 ^ 8 = b.toNat ^^^ c.toNat := by
    rw [Nat.xor_mod_two_pow]
    congr 1 <;> omega
  have hdiv : ((b.toNat + 256 * leNat bs) ^^^ c.toNat) / 2 ^ 8 = leNat bs := by
    rw [Nat.xor_div_two_pow, Nat.div_eq_of_lt hc, Nat.xor_zero]
    omega
  omega

/-- Settles O53: the bytes are shifted as one number, and the bit that falls out decides on the XOR. -/
theorem mulAlphaDoubles : Obligations.MulAlphaDoubles := by
  intro t ht
  have hlt := leNat_lt t
  have hne : shiftLeftBytes false t ≠ [] := by
    rw [← List.length_pos_iff, length_shiftLeftBytes]
    omega
  rw [ht] at hlt
  refine ⟨by rw [length_mulAlpha, ht], ?_⟩
  have htop : 128 * 256 ^ 15 = 2 ^ 127 := by norm_num
  have hall : 256 ^ 16 = 2 ^ 128 := by norm_num
  rw [mulAlpha, getLsbD_getLastD ht, htop]
  rw [hall] at hlt
  simp only [decide_eq_true_eq]
  split
  next hbig =>
    have hmod : 2 * leNat t % 2 ^ 128 = 2 * leNat t - 2 ^ 128 := by omega
    rw [leNat_xorFirst _ hne, leNat_shiftLeftBytes, ht, hall, Bool.toNat_false, Nat.add_zero, hmod, if_neg (by omega)]
    rfl
  next hsmall =>
    have hmod : 2 * leNat t % 2 ^ 128 = 2 * leNat t := by omega
    rw [leNat_shiftLeftBytes, ht, hall, Bool.toNat_false, Nat.add_zero, hmod, if_pos (by omega)]

/-! ### XTS (R312 to R315) -/

theorem isLoop_xtsBlocks (f : Bytes → Bytes) (tweak : Nat → Bytes) :
    IsLoop (xtsBlocks f tweak) (fun j x => xorBytes (f (xorBytes x (tweak j))) (tweak j)) (fun j _ => j + 1) :=
  ⟨fun _ => rfl, fun _ _ _ => rfl⟩

section
variable {s : State} (hk : xtsKeyLength s.keylen.toNat)

theorem xtsKey_zero (s : State) : xtsKey s 0 = s.xtsKey1 := by
  simp only [xtsKey, Nat.zero_mul]
  rfl

theorem length_xtsKey (s : State) (half : Nat) : (xtsKey s half).length = s.keylen.toNat / 2 := by simp [xtsKey]

include hk

/-- The two halves of KEY are equally long. -/
theorem xtsKey_one : xtsKey s 1 = s.xtsKey2 := by
  have hhalf : s.keylen.toNat - s.keylen.toNat / 2 = s.keylen.toNat / 2 := by omega
  rw [State.xtsKey2, hhalf]
  simp only [xtsKey, Nat.one_mul]
  rfl

theorem aesKeyLength_xtsKey (half : Nat) : aesKeyLength (xtsKey s half).length := by
  rw [length_xtsKey]
  omega

theorem xtsTweaks_eq_tweak : s.xtsTweaks = tweak s := by
  funext j
  rw [State.xtsTweaks, ← xtsKey_one hk]
  induction j with
  | zero => rfl
  | succ j ih =>
    rw [tweak]
    cases hschedule : s.params.xtsTweakSchedule with
    | alpha =>
      rw [hschedule] at ih
      exact congrArg mulAlpha ih
    | sectorIncrement => rfl
    | constant => rfl

theorem length_tweak (j : Nat) : (tweak s j).length = 16 := by
  have hE : ∀ n, (tweakOf s n).length = 16 := fun n => length_encryptBlock_of_key (aesKeyLength_xtsKey hk 1) _
  induction j with
  | zero => exact hE _
  | succ j ih =>
    rw [tweak]
    split
    · rw [length_mulAlpha, ih]
    · exact hE _
    · exact hE _

theorem readsAs_xtsBlocks {f : Bytes → Bytes} (hf : ∀ b, (f b).length = 16) {x : Bytes} {n : Nat} {y : Nat → Byte}
    (hx : ReadsAs x n y) (hn : n % 16 = 0) :
    ReadsAs (xtsBlocks f s.xtsTweaks 0 (blocks x)) n
      (byteOfBlocks fun j => xorBytes (f (xorBytes (blockOf y j) (tweak s j))) (tweak s j)) := by
  rw [xtsTweaks_eq_tweak hk]
  exact (isLoop_xtsBlocks f (tweak s)).readsAs_blocks (st := fun j => j) hx hn (fun _ => rfl) (fun _ => rfl) fun j => by
    rw [length_xorBytes, hf, length_tweak hk, min_self]

theorem readsAs_xtsCipher {x : Bytes} {n : Nat} {y : Nat → Byte} (hx : ReadsAs x n y) (hn : n % 16 = 0) :
    ReadsAs (xtsBlocks (encryptBlock (xtsKey s 0)) s.xtsTweaks 0 (blocks x)) n (byteOfBlocks (xtsCipher s y)) :=
  readsAs_xtsBlocks hk (length_encryptBlock_of_key (aesKeyLength_xtsKey hk 0)) hx hn

theorem readsAs_xtsPlain (hn : s.dlen.toNat % 16 = 0) :
    ReadsAs (xtsBlocks (decryptBlock (xtsKey s 0)) s.xtsTweaks 0 (blocks s.dataIn)) s.dlen.toNat
      (byteOfBlocks (xtsPlain s)) :=
  readsAs_xtsBlocks hk (length_decryptBlock_of_key (aesKeyLength_xtsKey hk 0)) (readsAs_dataIn s) hn

end

theorem lengths_of_xtsDecChecks {s : State} (h : checks s .xtsDec = .ok ()) :
    xtsKeyLength s.keylen.toNat ∧ s.dlen.toNat % 16 = 0 :=
  ⟨(lengths_of_checkXts h).1, require_ok_iff.1 (own_of_checkXts h)⟩

theorem result_xtsEnc {s : State} {q : Bytes} (hq : xtsPad s.params.xtsPadPolicy s.dataIn = q) :
    result s .xtsEnc = .ok (.ofOut (xtsBlocks (encryptBlock (xtsKey s 0)) s.xtsTweaks 0 (blocks q))) := by
  rw [result, hq, xtsKey_zero]

/-- Settles O54: the pad policy decides what is encrypted and whether the decrypted bytes are unpadded; the tweaks are
those of R313 under each schedule. -/
theorem xtsCommands : Obligations.XtsCommands := by
  refine ⟨decodeOfEncode .xtsEnc rfl, decodeOfEncode .xtsDec rfl, fun s => ⟨fun hpass hpad => ?_,
    fun hpass hpolicy haligned => ?_, fun _ => answersErr_of_eq_raised .xtsEnc (checks_eq_xtsEncChecks s),
    fun hpass hpolicy => ?_, fun hpass hpolicy => ?_,
    fun _ => answersErr_of_eq_raised .xtsDec (checks_eq_xtsDecChecks s)⟩⟩
  · have hchecks := checks_ok_of_eq_raised .xtsEnc (checks_eq_xtsEncChecks s) hpass
    obtain ⟨hk, -⟩ := lengths_of_checkXts hchecks
    have hq : xtsPad s.params.xtsPadPolicy s.dataIn = padBytes s.dataIn := by
      rw [raggedData, decide_eq_true_iff, ← length_dataIn] at hpad
      exact if_pos hpad
    exact answersOut_of_readsAs .xtsEnc hchecks (readsAs_xtsCipher hk (readsAs_padBytes s) (paddedLen_mod s))
      (result_xtsEnc hq)
  · have hchecks := checks_ok_of_eq_raised .xtsEnc (checks_eq_xtsEncChecks s) hpass
    obtain ⟨hk, -⟩ := lengths_of_checkXts hchecks
    have hfull : s.dlen.toNat % 16 = 0 := not_not.1 (of_decide_eq_false haligned)
    have hq : xtsPad s.params.xtsPadPolicy s.dataIn = s.dataIn := by
      rw [hpolicy, xtsPad, if_neg (by simp [hfull])]
    exact answersOut_of_readsAs .xtsEnc hchecks (readsAs_xtsCipher hk (readsAs_dataIn s) hfull) (result_xtsEnc hq)
  · have hchecks := checks_ok_of_eq_raised .xtsDec (checks_eq_xtsDecChecks s) hpass
    obtain ⟨hk, hfull⟩ := lengths_of_xtsDecChecks hchecks
    refine answersUnpadded_of_readsAs .xtsDec hchecks (readsAs_xtsPlain hk hfull) ?_
    rw [result, hpolicy, xtsKey_zero]
    rfl
  · have hchecks := checks_ok_of_eq_raised .xtsDec (checks_eq_xtsDecChecks s) hpass
    obtain ⟨hk, hfull⟩ := lengths_of_xtsDecChecks hchecks
    refine answersOut_of_readsAs .xtsDec hchecks (readsAs_xtsPlain hk hfull) ?_
    rw [result, hpolicy, xtsKey_zero]
    rfl

/-! ### GCM-S (R316 to R319) -/

theorem ReadsAs.eq_iff {x x' : Bytes} {n : Nat} {y : Nat → Byte} (hx : ReadsAs x n y) (hlen : x'.length = n) :
    x' = x ↔ ∀ k < n, y k = nth x' k := by
  refine ⟨fun h k hk => by rw [h, hx.nth_eq k hk], fun h => ?_⟩
  refine List.ext_getElem (hlen.trans hx.length.symm) fun k hk hk' => ?_
  rw [getElem_eq_nth, getElem_eq_nth, ← h k (by omega), hx.nth_eq k (by omega)]

theorem overlay_congr (s : State) {lo n : Nat} {new new' : Nat → Byte} (h : ∀ k < n, new k = new' k) (a : Nat) :
    overlay s lo n new a = overlay s lo n new' a := by
  unfold overlay
  split
  next ha => exact h _ (by omega)
  next => rfl

@[simp] theorem length_gcmTag (key plain aad : Bytes) : (gcmTag key plain aad).length = 16 := Vector.length_toList

/-- GCM_ENC writes DOUT, OLEN and TAG (R317). -/
theorem answers_gcmEnc {s : State} (hchecks : s.checkGcm = .ok ()) {y : Nat → Byte}
    (hout : ReadsAs s.gcmStream s.dlen.toNat y) :
    Answers .gcmEnc s { succeeded s with olen := s.dlen } fun a =>
      if 0x00A0 ≤ a ∧ a < 0x00B0 then nth (gcmTag s.keyBytes s.dataIn s.aadBytes) (a - 0x00A0)
      else overlay s 0x2000 s.dlen.toNat y a := by
  refine ⟨_, exec_of_checks_ok (i := .gcmEnc) hchecks rfl, ?_, fun a => ?_⟩
  · have holen : BitVec.ofNat 13 s.gcmStream.length = s.dlen := by
      rw [hout.length, BitVec.ofNat_toNat, BitVec.setWidth_eq]
    rw [Commit.apply_ofOutTag, ← holen]
    rfl
  · rw [byteAt_completeOk, Commit.apply_ofOutTag, byteAt_setBuf, length_gcmTag,
      byteAt_commitOut_eq_overlay s hout.length, overlay_congr s hout.nth_eq]
    rfl

/-- Settles O55: the stream is that of CTR, and the recomputed tag is over what it gives. -/
theorem gcmCommands : Obligations.GcmCommands := by
  refine ⟨decodeOfEncode .gcmEnc rfl, decodeOfEncode .gcmDec rfl, decodeOfEncode .gcmDecNv rfl, fun s => ?_⟩
  intro stream n aad tag
  refine ⟨fun hpass => ?_, fun e hfail => ?_⟩
  · have hchecks := checks_ok_of_eq_raised .gcmDec (checkGcm_eq_raised s) hpass
    obtain ⟨hk, hd, -⟩ := lengths_of_checkGcm hchecks
    have hout : ReadsAs s.gcmStream n stream := readsAs_ctrStream hk hd
    have hplain : tag (dinByte s) = gcmTag s.keyBytes s.dataIn s.aadBytes := by
      simp only [tag, n, (readsAs_dataIn s).map_range]
      rfl
    have htag : tag stream = gcmTag s.keyBytes s.gcmStream s.aadBytes := by
      simp only [tag, hout.map_range]
      rfl
    have hread : ReadsAs s.tagBytes 16 (fun k => s.byteAt (0x00A0 + k)) :=
      ⟨length_buf .., fun k => getD_buf s .tag 16 k⟩
    rw [hplain, htag, ← hread.eq_iff (length_gcmTag ..)]
    refine ⟨answers_gcmEnc hchecks hout, answersOut_of_readsAs .gcmDecNv hchecks hout rfl, fun hsame => ?_,
      fun hdiffer => answersErr_of_result hchecks ?_⟩
    · exact answersOut_of_readsAs .gcmDec hchecks hout (by rw [result, require_pos hsame]; rfl)
    · rw [result, require_neg hdiffer]
      rfl
  · exact ⟨answersErr_of_eq_raised .gcmEnc (checkGcm_eq_raised s) hfail,
      answersErr_of_eq_raised .gcmDec (checkGcm_eq_raised s) hfail,
      answersErr_of_eq_raised .gcmDecNv (checkGcm_eq_raised s) hfail⟩

/-! ### The words of an unrecognised mode (R320) -/

/-- TRACE is a bit of its own. -/
theorem fieldsOf_or_trace (w : Word) : fieldsOf (w ||| 0x00001000) = { fieldsOf w with trace := true } := by
  simp [fieldsOf, BitVec.extractLsb'_or]

/-- The fields of MODE_ENC and MODE_DEC words of MODE 7 to 15. -/
theorem fieldsOf_modeWord {mode : Nat} {w : Word} (hlo : 7 ≤ mode) (hhi : mode ≤ 15)
    (hw : w = BitVec.ofNat 32 (0x0004 + 256 * mode) ∨ w = BitVec.ofNat 32 (0x0005 + 256 * mode) ∨
      w = BitVec.ofNat 32 (0x2005 + 256 * mode)) :
    ∃ op nv, (op = 4 ∧ nv = false ∨ op = 5) ∧ fieldsOf w = ⟨op, mode, false, nv, false, 0⟩ := by
  rcases hw with rfl | rfl | rfl
  · exact ⟨4, false, by decide, by interval_cases mode <;> rfl⟩
  · exact ⟨5, false, by decide, by interval_cases mode <;> rfl⟩
  · exact ⟨5, true, by decide, by interval_cases mode <;> rfl⟩

/-- Settles O59: such a word is legal, and its command reports the mode; with TRACE it is no legal word. -/
theorem unsupportedModeCommands : Obligations.UnsupportedModeCommands := by
  refine ⟨fun s mode nv => ⟨rfl, rfl, rfl, rfl⟩, fun s mode w hlo hhi hw => ?_⟩
  obtain ⟨op, nv, hop, hfields⟩ := fieldsOf_modeWord hlo hhi hw
  constructor
  · have hlegal : (fieldsOf w).Legal := by
      rw [hfields]
      exact ⟨(opAssigned_iff (op := op)).2 (by omega), rfl, fun _ => hop.imp_left And.left, nofun,
        fun hnv => hop.resolve_left fun ⟨_, hoff⟩ => Bool.noConfusion (hoff.symm.trans hnv),
        fun hround => absurd rfl hround⟩
    exact completeWord_unsupported hlegal (by rw [hfields]; exact hop.imp_left And.left) (by rwa [hfields]) s
  · refine completeWord_error (decodeFields_of_not_legal fun hlegal => ?_) s
    have htrace := hlegal.trace
    rw [fieldsOf_or_trace, hfields] at htrace
    have hblock : op = 2 ∨ op = 3 := htrace rfl
    omega

end Sys2Proof.Machine
end

section
/-! PROOFS. Family 60_exceptions.md: every step goes on, what a completion reports, and the codes that each command can
end with. -/

namespace Sys2Proof.Machine

open Sys2Proof Sys2Proof.Claims

/-! ### Every step answers a next state (R354) -/

theorem exec_isNext (i : Instr) (s : State) : ∃ t, exec i s = .next t := by
  rw [exec_eq_outcome]
  exact finish_isNext ..

theorem completeWord_isNext (w : Word) (s : State) : ∃ t, completeWord w s = .next t := by
  cases hdecode : decode w with
  | ok i =>
    rw [completeWord_ok hdecode]
    exact exec_isNext i s
  | error e => exact ⟨_, completeWord_error hdecode s⟩

theorem engineTurn_isNext (s : State) : ∃ t, engineTurn s = .next t := by
  cases hp : s.pending with
  | none => exact ⟨s, engineTurn_idle hp⟩
  | some w =>
    rw [engineTurn_pending hp]
    exact completeWord_isNext w s

theorem eventStep_isNext (e : Event) (s : State) : ∃ t, eventStep e s = .next t := by
  cases e with
  | hostRead | hostWrite | reset => exact ⟨_, rfl⟩
  | engine => exact engineTurn_isNext s

/-! ### What a completion answers (R153, R352) -/

/-- A pending word completes in the two ways of a command. -/
theorem completeWord_cases {w : Word} {s t : State} (h : completeWord w s = .next t) :
    (∃ u : State, t = u.completeOk) ∨ ∃ e, t = s.completeErr e := by
  cases hdecode : decode w with
  | ok i =>
    rw [completeWord_ok hdecode] at h
    exact exec_cases h
  | error e =>
    rw [completeWord_error hdecode] at h
    cases h
    exact .inr ⟨_, rfl⟩

/-- Of the two ways only the bare report of an error leaves a code. -/
theorem eq_completeErr_of_errcode {s t : State} {e : ErrCode}
    (h : (∃ u : State, t = u.completeOk) ∨ ∃ e, t = s.completeErr e) (he : t.errcode = some e) : t = s.completeErr e := by
  rcases h with ⟨u, rfl⟩ | ⟨e', rfl⟩
  · cases he
  · cases he
    rfl

/-! ### Nothing but a completion sets DONE (R360) -/

theorem done_of_writePlace {s : State} {p : Place} {b : Byte} (h : (s.writePlace p b).done = true) : s.done = true := by
  cases p with
  | reg r k =>
    cases r with
    | status =>
      rw [writePlace_status] at h
      split at h
      next => exact (Bool.and_eq_true_iff.1 h).1
      next => exact h
    | _ => exact h
  | buf b' i => cases b' <;> exact h
  | reserved => exact h

theorem done_of_writeBytes {s : State} {o : Nat} {bs : Bytes} (h : (s.writeBytes o bs).done = true) : s.done = true := by
  induction bs generalizing s o with
  | nil => exact h
  | cons b bs ih => exact done_of_writePlace (ih h)

theorem done_of_hostWrite {s : State} {o : BitVec 15} {z : AccessSize} {v : Word}
    (h : (s.hostWrite o z v).done = true) : s.done = true := by
  by_cases ha : o.toNat % z.bytes = 0
  · rw [hostWrite_aligned s v ha, State.respond_done, State.alignedWrite] at h
    split_ifs at h with hdropped hcmd hword
    · exact h
    · cases h
    · exact h
    · exact done_of_writeBytes h
  · rw [hostWrite_misaligned s v ha, State.respond_done] at h
    exact h

theorem pending_of_engineTurn_sets_done {s t : State} (h : engineTurn s = .next t) (hs : s.done = false)
    (ht : t.done = true) : s.pending ≠ none := by
  intro hidle
  rw [engineTurn_idle hidle] at h
  cases h
  exact Bool.noConfusion (hs.symm.trans ht)

/-- The one step that sets DONE. -/
theorem step_sets_done {s t : State} (h : step s = .next t) (hs : s.done = false) (ht : t.done = true) :
    s.pending ≠ none ∧ enginesTurn s := by
  rcases step_cases h with ⟨hnil, hturn⟩ | ⟨e, rest, hnext, he⟩
  · exact ⟨pending_of_engineTurn_sets_done hturn hs ht, .inl hnil⟩
  · have hs' : State.done { s with schedule := rest } ≠ true := by simp [hs]
    cases e with
    | hostRead o z =>
      obtain ⟨r, d, hread⟩ := hostRead_eq { s with schedule := rest } o z
      rw [eventStep_hostRead, hread] at he
      cases he
      exact absurd ht hs'
    | hostWrite o z v =>
      cases he
      exact absurd (done_of_hostWrite ht) hs'
    | engine => exact ⟨pending_of_engineTurn_sets_done (s := { s with schedule := rest }) he hs ht, .inr ⟨rest, hnext⟩⟩
    | reset =>
      cases he
      cases ht

/-! ### The codes that a check can raise (R353) -/

/-- When `x` fails, its code is in `es`. -/
def RaisesOnly {α : Type} (es : List ErrCode) (x : Except ErrCode α) : Prop := ∀ e, x = .error e → e ∈ es

section
variable {α β : Type} {es : List ErrCode}

theorem raisesOnly_ok (a : α) : RaisesOnly es (.ok a) := fun _ h => by cases h

theorem raisesOnly_error {e : ErrCode} (he : e ∈ es) : RaisesOnly es (.error e : Except ErrCode α) := fun _ h => by
  cases h
  exact he

theorem raisesOnly_require {p : Prop} [Decidable p] {e : ErrCode} (he : e ∈ es) : RaisesOnly es (require p e) := by
  by_cases hp : p
  · rw [require_pos hp]
    exact raisesOnly_ok ()
  · rw [require_neg hp]
    exact raisesOnly_error he

theorem RaisesOnly.bind {x : Except ErrCode α} {f : α → Except ErrCode β} (hx : RaisesOnly es x)
    (hf : ∀ a, RaisesOnly es (f a)) : RaisesOnly es (x >>= f) := by
  cases x with
  | ok a => exact hf a
  | error e => exact raisesOnly_error (hx e rfl)

theorem raisesOnly_unpadBytes (d : Bytes) (he : .invalidPadding ∈ es) : RaisesOnly es (unpadBytes d) := fun _ h =>
  eq_invalidPadding_of_unpadBytes h ▸ he

theorem raisesOnly_xtsUnpad (policy : XtsPadPolicy) (d : Bytes) (he : policy = .always → .invalidPadding ∈ es) :
    RaisesOnly es (xtsUnpad policy d) := by
  unfold xtsUnpad
  split
  next halways => exact raisesOnly_unpadBytes d (he halways)
  next => exact raisesOnly_ok d

/-- KEY_LENGTH and RANGE come first in most commands (R300). -/
theorem raisesOnly_key_range_own {p q : Prop} [Decidable p] [Decidable q] {own : Except ErrCode Unit}
    (hkey : .keyLength ∈ es) (hrange : .range ∈ es) (hown : RaisesOnly es own) :
    RaisesOnly es (require p .keyLength >>= fun _ => require q .range >>= fun _ => own) :=
  (raisesOnly_require hkey).bind fun _ => (raisesOnly_require hrange).bind fun _ => hown

end

/-! ### The codes that a command can end with (R353) -/

theorem checks_raisesOnly_errorSet (s : State) (i : Instr) : RaisesOnly (errorSet i) (checks s i) := by
  cases i with
  | keyExpand => exact raisesOnly_require (by decide)
  | addRoundKey r =>
    exact (raisesOnly_require (by simp [errorSet])).bind fun _ => raisesOnly_require (by simp [errorSet])
  | ecbEnc | xtsEnc => exact raisesOnly_key_range_own (by decide) (by decide) (raisesOnly_ok ())
  | blockEnc | blockDec | blockEncT | blockDecT | ecbDec | cbcEnc | cfbEnc | cfbDec | ofbEnc | ofbDec | ctrEnc | ctrDec
  | xtsDec | gcmEnc | gcmDec | gcmDecNv =>
    exact raisesOnly_key_range_own (by decide) (by decide) (raisesOnly_require (by decide))
  | cbcDec =>
    exact raisesOnly_key_range_own (by decide) (by decide)
      ((raisesOnly_require (by decide)).bind fun _ => raisesOnly_require (by decide))
  | pad | unpad => exact raisesOnly_require (by decide)
  | gfMul | clear | subBytes | invSubBytes | shiftRows | invShiftRows | mixColumns | invMixColumns =>
    exact raisesOnly_ok ()
  | modeEncUnsupported7 | modeEncUnsupported8to15 | modeDecUnsupported7 | modeDecUnsupported8to15 =>
    exact raisesOnly_error (by simp [errorSet])

theorem result_raisesOnly_errorSet (s : State) (i : Instr) : RaisesOnly (errorSet i) (result s i) := by
  cases i with
  | ecbDec | cbcDec | unpad => exact (raisesOnly_unpadBytes _ (by decide)).bind fun _ => raisesOnly_ok _
  | xtsDec => exact (raisesOnly_xtsUnpad _ _ fun _ => by decide).bind fun _ => raisesOnly_ok _
  | gcmDec => exact (raisesOnly_require (by decide)).bind fun _ => raisesOnly_ok _
  | modeEncUnsupported7 | modeEncUnsupported8to15 | modeDecUnsupported7 | modeDecUnsupported8to15 =>
    exact raisesOnly_error (by simp [errorSet])
  | _ => exact raisesOnly_ok _

/-- A command ends with success or with a code of its row. -/
theorem outcome_raisesOnly_errorSet (s : State) (i : Instr) : RaisesOnly (errorSet i) (outcome s i) :=
  (checks_raisesOnly_errorSet s i).bind fun _ => result_raisesOnly_errorSet s i

/-- Under IF_UNALIGNED nothing is unpadded, so XTS_DEC fails by its checks alone (R315). -/
theorem outcome_xtsDec_raisesOnly {s : State} (hpolicy : s.params.xtsPadPolicy = .ifUnaligned) :
    RaisesOnly [.keyLength, .range, .blockLength] (outcome s .xtsDec) :=
  (raisesOnly_key_range_own (by decide) (by decide) (raisesOnly_require (by decide))).bind fun _ =>
    (raisesOnly_xtsUnpad _ _ fun halways => by cases hpolicy.symm.trans halways).bind fun _ => raisesOnly_ok _

/-! ### The statements of 60_exceptions.md -/

/-- Settles O6: an event answers a next state, and so does the Engine's turn, whatever word is pending. -/
theorem everyStepGoesOn : Obligations.EveryStepGoesOn := by
  intro s
  cases hs : s.schedule with
  | nil =>
    rw [step_nil hs]
    exact engineTurn_isNext s
  | cons e rest =>
    rw [step_cons hs]
    exact eventStep_isNext e _

/-- Settles O10: `step_sets_done` finds the completion; a command's writes leave IRQ_EN alone. -/
theorem doneAndIrqComeFromCompletion : Obligations.DoneAndIrqComeFromCompletion := by
  refine ⟨fun s t => step_sets_done, fun i s t h => ?_, fun s => Bool.and_eq_true_iff⟩
  rcases exec_outcome_cases h with ⟨c, -, rfl⟩ | ⟨e, -, rfl⟩
  all_goals exact ⟨rfl, Bool.and_true s.irqEn⟩

/-- Settles O24: a command and a pending word have the same two ways to complete, and a code tells which it was. -/
theorem errorsCommitNothing : Obligations.ErrorsCommitNothing :=
  ⟨fun _ _ _ _ h => eq_completeErr_of_errcode (exec_cases h),
    fun _ _ _ _ h => eq_completeErr_of_errcode (completeWord_cases h)⟩

/-- Settles O25: the code that a failing outcome reports is one that its checks or its data can raise. -/
theorem commandsEndWithinTheirErrorSet : Obligations.CommandsEndWithinTheirErrorSet := by
  intro i s
  obtain ⟨t, h⟩ := exec_isNext i s
  refine ⟨t, h, ?_⟩
  rcases exec_outcome_cases h with ⟨c, -, rfl⟩ | ⟨e, he, rfl⟩
  · exact ⟨rfl, rfl, .inl rfl, fun _ _ hcode => by cases hcode⟩
  · refine ⟨rfl, rfl, .inr ⟨e, outcome_raisesOnly_errorSet s i e he, rfl⟩, ?_⟩
    rintro rfl hpolicy hcode
    cases hcode
    exact absurd (outcome_xtsDec_raisesOnly hpolicy _ he) (by decide)

end Sys2Proof.Machine
end

section
/-! PROOFS. Family other: the tables of 41_constants_gf.md, and the cipher undone by its inverse. -/

namespace Sys2Proof.Machine

open Sys2Proof Sys2Proof.Claims

/-! ### Associativity and inverses in GF(2^8) (R181, R184) -/

theorem gfMul_iterate_xtime_left (i : Nat) (a b : Byte) : gfMul (xtime^[i] a) b = xtime^[i] (gfMul a b) :=
  Function.Semiconj.iterate_right (f := (gfMul · b)) (fun a => gfMul_xtime_left a b) i a

theorem gfMul_assoc (a b c : Byte) : gfMul (gfMul a b) c = gfMul a (gfMul b c) := by
  induction a using byte_basis_induction with
  | hxor a a' ha ha' => rw [gfMul_xor_left, gfMul_xor_left, ha, ha', gfMul_xor_left]
  | hbasis i hi => rw [gfMul_twoPow_left hi, gfMul_twoPow_left hi, gfMul_iterate_xtime_left]

/-- x^254 by squaring: six times y becomes x·y², from x to x^127, and then one square more. -/
def gfInv (x : Byte) : Byte :=
  let y := (fun y => gfMul x (gfMul y y))^[6] x
  gfMul y y

theorem gfMul_gfInv : ∀ x : Byte, x ≠ 0 → gfMul x (gfInv x) = 1 := by decide +kernel

theorem gfInv_zero : gfInv 0 = 0 := by decide +kernel

/-- Inverses are unique. -/
theorem eq_gfInv_of_gfMul_eq_one {x b : Byte} (h : gfMul x b = 1) : b = gfInv x := by
  have hx : x ≠ 0 := by
    rintro rfl
    rw [gfMul_zero_left] at h
    cases h
  calc b = gfMul (gfMul (gfInv x) x) b := by rw [gfMul_comm (gfInv x), gfMul_gfInv x hx, gfMul_one_left]
    _ = gfInv x := by rw [gfMul_assoc, h, gfMul_comm, gfMul_one_left]

/-! ### The tables (R181 to R183) -/

/-- The affine map of R181. -/
def sboxAffine (b : Byte) : Byte :=
  b ^^^ b.rotateLeft 1 ^^^ b.rotateLeft 2 ^^^ b.rotateLeft 3 ^^^ b.rotateLeft 4 ^^^ 0x63

theorem sbox_eq_affine : ∀ x : Byte, sbox x = sboxAffine (gfInv x) := by decide +kernel

theorem invSbox_sbox : ∀ x : Byte, invSbox (sbox x) = x := by decide +kernel

theorem sbox_invSbox : ∀ x : Byte, sbox (invSbox x) = x := by decide +kernel

/-- Settles O30: an inverse is x^254, the one that SBOX is the affine image of; the rest is read off the tables. -/
theorem tablesFollowTheField : Obligations.TablesFollowTheField := by
  refine ⟨fun x b hb => ?_, fun x hx => ⟨gfInv x, gfMul_gfInv x hx⟩, fun x => ⟨invSbox_sbox x, sbox_invSbox x⟩, rfl,
    by decide⟩
  have hinv : b = gfInv x := by
    rcases hb with ⟨rfl, rfl⟩ | hb
    · exact gfInv_zero.symm
    · exact eq_gfInv_of_gfMul_eq_one hb
  rw [hinv]
  exact sbox_eq_affine x

/-! ### Transforms that undo each other (R220 to R226) -/

theorem invSubBytes_subBytes (b : Bytes) : invSubBytes (subBytes b) = b := by
  simp [invSubBytes, subBytes, Function.comp_def, invSbox_sbox]

theorem subBytes_invSubBytes (b : Bytes) : subBytes (invSubBytes b) = b := by
  simp [invSubBytes, subBytes, Function.comp_def, sbox_invSbox]

/-- A permutation of 16 bytes is undone by one that takes every byte back. -/
theorem permute_permute {f g : Nat → Nat} (hf : ∀ i < 16, f i < 16) (hgf : ∀ i < 16, g (f i) = i) {b : Bytes}
    (hb : b.length = 16) : permute f (permute g b) = b := by
  refine List.ext_getElem (by simp [hb]) fun i hi hi' => ?_
  have hlt : i < 16 := by simpa using hi
  rw [getElem_eq_nth, getElem_eq_nth, nth_permute _ _ hlt, nth_permute _ _ (hf i hlt), hgf i hlt]

theorem invShiftRows_shiftRows {b : Bytes} (hb : b.length = 16) : invShiftRows (shiftRows b) = b :=
  permute_permute (fun i _ => invShiftSource_lt i) (by decide) hb

theorem shiftRows_invShiftRows {b : Bytes} (hb : b.length = 16) : shiftRows (invShiftRows b) = b :=
  permute_permute (fun i _ => shiftSource_lt i) (by decide) hb

/-- The product of two circulant matrices is the circulant matrix of the product of their first rows. -/
theorem circulant_circulant (m0 m1 m2 m3 n0 n1 n2 n3 : Byte) : ∀ b : Bytes,
    circulant m0 m1 m2 m3 (circulant n0 n1 n2 n3 b) =
      circulant
        (gfMul m0 n0 ^^^ gfMul m1 n3 ^^^ gfMul m2 n2 ^^^ gfMul m3 n1)
        (gfMul m0 n1 ^^^ gfMul m1 n0 ^^^ gfMul m2 n3 ^^^ gfMul m3 n2)
        (gfMul m0 n2 ^^^ gfMul m1 n1 ^^^ gfMul m2 n0 ^^^ gfMul m3 n3)
        (gfMul m0 n3 ^^^ gfMul m1 n2 ^^^ gfMul m2 n1 ^^^ gfMul m3 n0) b
  | [] | [_] | [_, _] | [_, _, _] => rfl
  | a0 :: a1 :: a2 :: a3 :: rest => by
    simp only [circulant, gfMul_xor_right, gfMul_xor_left, gfMul_assoc, circulant_circulant _ _ _ _ _ _ _ _ rest,
      List.cons.injEq, and_true]
    refine ⟨?_, ?_, ?_, ?_⟩ <;> ac_rfl

theorem circulant_one : ∀ {b : Bytes}, b.length % 4 = 0 → circulant 1 0 0 0 b = b
  | [], _ => rfl
  | [_], h | [_, _], h | [_, _, _], h => by simp at h
  | a0 :: a1 :: a2 :: a3 :: rest, h => by
    have hrest : rest.length % 4 = 0 := by simpa [Nat.add_mod_right, Nat.add_assoc] using h
    simp only [circulant, gfMul_one_left, gfMul_zero_left, circulant_one hrest]
    simp

theorem invMixColumns_mixColumns {b : Bytes} (hb : b.length = 16) : invMixColumns (mixColumns b) = b :=
  (circulant_circulant ..).trans (circulant_one (by rw [hb]))

theorem mixColumns_invMixColumns {b : Bytes} (hb : b.length = 16) : mixColumns (invMixColumns b) = b :=
  (circulant_circulant ..).trans (circulant_one (by rw [hb]))

theorem addRoundKey_addRoundKey {b k : Bytes} (h : b.length ≤ k.length) : addRoundKey (addRoundKey b k) k = b :=
  xorBytes_cancel_right h

/-! ### The steps of E undone one by one -/

/-- The operation that undoes another. -/
def TraceOp.inverse : TraceOp → TraceOp
  | .addRoundKey => .addRoundKey
  | .subBytes => .invSubBytes
  | .shiftRows => .invShiftRows
  | .mixColumns => .invMixColumns
  | .invSubBytes => .subBytes
  | .invShiftRows => .shiftRows
  | .invMixColumns => .mixColumns

/-- The step that undoes another: the inverse operation, with the same round key. -/
def CipherStep.inverse (st : CipherStep) : CipherStep := ⟨st.round, st.op.inverse⟩

section
variable {key : Bytes} (hk : aesKeyLength key.length)
include hk

theorem apply_inverse_apply {st : CipherStep} (hr : st.round ≤ nrOf key.length) {b : Bytes} (hb : b.length = 16) :
    st.inverse.apply (expand key) (st.apply (expand key) b) = b := by
  obtain ⟨round, op⟩ := st
  cases op with
  | addRoundKey => exact addRoundKey_addRoundKey (by rw [hb, length_roundKey hk hr])
  | subBytes => exact invSubBytes_subBytes b
  | shiftRows => exact invShiftRows_shiftRows hb
  | mixColumns => exact invMixColumns_mixColumns hb
  | invSubBytes => exact subBytes_invSubBytes b
  | invShiftRows => exact shiftRows_invShiftRows hb
  | invMixColumns => exact mixColumns_invMixColumns hb

/-- Steps are undone by their inverses in the opposite order. -/
theorem runSteps_reverse_inverse {sts : List CipherStep} (hr : ∀ st ∈ sts, st.round ≤ nrOf key.length) {b : Bytes}
    (hb : b.length = 16) :
    runSteps (expand key) (sts.reverse.map CipherStep.inverse) (runSteps (expand key) sts b) = b := by
  induction sts generalizing b with
  | nil => rfl
  | cons st sts ih =>
    have hst := hr st List.mem_cons_self
    rw [runSteps, List.reverse_cons, List.map_append, runSteps_append,
      ih (fun x hx => hr x (List.mem_cons_of_mem _ hx)) (length_apply hk hst hb)]
    exact apply_inverse_apply hk hst hb

end

/-! ### D as the inverse steps of E (R250, R251) -/

/-- A step with the label taken off that no round key belongs to. -/
def CipherStep.unlabelled (st : CipherStep) : CipherStep := if st.op = .addRoundKey then st else ⟨0, st.op⟩

theorem apply_unlabelled (ws : List Bytes) (st : CipherStep) (b : Bytes) :
    st.unlabelled.apply ws b = st.apply ws b := by
  obtain ⟨round, op⟩ := st
  cases op <;> rfl

theorem runSteps_map_unlabelled (ws : List Bytes) (sts : List CipherStep) (b : Bytes) :
    runSteps ws (sts.map CipherStep.unlabelled) b = runSteps ws sts b := by
  induction sts generalizing b with
  | nil => rfl
  | cons st sts ih => rw [List.map_cons, runSteps, runSteps, apply_unlabelled, ih]

/-- A piece before each group, and one more behind the last, is a piece behind each group, and one more before the
first. -/
theorem append_flatMap_append {α β : Type} (p : List β) (q : α → List β) (l : List α) :
    p ++ l.flatMap (fun r => q r ++ p) = l.flatMap (fun r => p ++ q r) ++ p := by
  induction l with
  | nil => simp
  | cons r l ih => simp [ih]

/-- Up to those labels, the steps of D are the inverses of the steps of E, from the last to the first. -/
theorem unlabelled_decSteps (nr : Nat) :
    (decSteps nr).map CipherStep.unlabelled =
      ((encSteps nr).reverse.map CipherStep.inverse).map CipherStep.unlabelled := by
  have hgroups := append_flatMap_append [⟨0, .invShiftRows⟩, ⟨0, .invSubBytes⟩]
    (fun r => [⟨r, .addRoundKey⟩, (⟨0, .invMixColumns⟩ : CipherStep)]) (List.range' 1 (nr - 1)).reverse
  simpa [decSteps, encSteps, decRound, encRound, List.map_flatMap, List.reverse_flatMap, CipherStep.unlabelled,
    CipherStep.inverse, TraceOp.inverse] using (congrArg (· ++ [⟨0, .addRoundKey⟩]) hgroups).symm

/-- D takes back the steps of E one by one: the two differ in labels alone that name no round key (R259). -/
theorem decryptBlock_encryptBlock {key b : Bytes} (hk : aesKeyLength key.length) (hb : b.length = 16) :
    decryptBlock key (encryptBlock key b) = b := by
  rw [decryptBlock, ← runSteps_map_unlabelled, unlabelled_decSteps, runSteps_map_unlabelled, encryptBlock]
  exact runSteps_reverse_inverse hk (encSteps_round_le _) hb

/-- Settles O39: the steps of D are the inverses of those of E, and every step of E is undone by its inverse. -/
theorem decryptInvertsEncrypt : Obligations.DecryptInvertsEncrypt := fun _ _ hk hb => decryptBlock_encryptBlock hk hb

end Sys2Proof.Machine
end

section
/-! PROOFS. Family other: the padded modes of 46_modes.md round-trip, and blocks that depend on no other block. -/

namespace Sys2Proof.Machine

open Sys2Proof Sys2Proof.Claims

/-! ### Loops that make a block of every block -/

/-- A sequence of full blocks, laid end to end. -/
inductive FullBlocks : Bytes → Prop
  | nil : FullBlocks []
  | append {p r : Bytes} (hp : p.length = 16) (hr : FullBlocks r) : FullBlocks (p ++ r)

theorem fullBlocks_of_length_mod {x : Bytes} (hx : x.length % 16 = 0) : FullBlocks x := by
  induction x using blocks_induction with
  | hnil => exact .nil
  | hcons x hne ih =>
    have hpos := List.length_pos_iff.2 hne
    rw [← List.take_append_drop 16 x]
    exact .append (by rw [List.length_take]; omega) (ih (by rw [List.length_drop]; omega))

theorem blocks_append_of_length {p : Bytes} (hp : p.length = 16) (r : Bytes) : blocks (p ++ r) = p :: blocks r :=
  blocks_append (List.ne_nil_of_length_eq_add_one hp) hp.le (.inl hp)

section
variable {σ : Type} {g : σ → List Bytes → Bytes} {piece : σ → Bytes → Bytes} {next : σ → Bytes → σ}

theorem IsLoop.length_of_fullBlocks (hg : IsLoop g piece next) (hpiece : ∀ a x, (piece a x).length = 16) (a : σ)
    {x : Bytes} (hx : FullBlocks x) : (g a (blocks x)).length = x.length := by
  induction hx generalizing a with
  | nil => rw [blocks_nil, hg.nil]
  | append hp _ ih =>
    rw [blocks_append_of_length hp, hg.cons, List.length_append, List.length_append, hpiece, ih, hp]

/-- A loop over full blocks is undone by one that takes every block back and carries on the same; `C` holds of all that
the loops carry. -/
theorem IsLoop.round_trip {h : σ → List Bytes → Bytes} {piece' : σ → Bytes → Bytes} {next' : σ → Bytes → σ}
    {C : σ → Prop} (hg : IsLoop g piece next) (hh : IsLoop h piece' next') (hpiece : ∀ a x, (piece a x).length = 16)
    (hcarry : ∀ a x, C a → x.length = 16 → C (next a x)) (hnext : ∀ a x, next' a (piece a x) = next a x)
    (hundo : ∀ a x, C a → x.length = 16 → piece' a (piece a x) = x) {a : σ} (ha : C a) {x : Bytes}
    (hx : FullBlocks x) : h a (blocks (g a (blocks x))) = x := by
  induction hx generalizing a with
  | nil => rw [blocks_nil, hg.nil, blocks_nil, hh.nil]
  | append hp _ ih =>
    rw [blocks_append_of_length hp, hg.cons, blocks_append_of_length (hpiece a _), hh.cons, hnext,
      hundo a _ ha hp, ih (hcarry a _ ha hp)]

/-- When what a loop carries to block `j` is `st j`, whatever the blocks before it hold, block `j` of the result is made
of block `j` alone. The piece of a block is not shorter than the block, and no longer than 16 bytes. -/
theorem IsLoop.getElem?_blocks (hg : IsLoop g piece next) {st : Nat → σ} (hst : ∀ j x, next (st j) x = st (j + 1))
    (hpiece : ∀ a x, x.length ≤ 16 → x.length ≤ (piece a x).length ∧ (piece a x).length ≤ 16) (x : Bytes) (j : Nat) :
    (blocks (g (st 0) (blocks x)))[j]? = (blocks x)[j]?.map (piece (st j)) := by
  induction x using blocks_induction generalizing st j with
  | hnil => rw [blocks_nil, hg.nil, blocks_nil]; rfl
  | hcons x hx ih =>
    have hpos := List.length_pos_iff.2 hx
    have hfirst : (x.take 16).length = min 16 x.length := List.length_take
    obtain ⟨hlo, hhi⟩ := hpiece (st 0) (x.take 16) (by omega)
    have hne : piece (st 0) (x.take 16) ≠ [] := List.length_pos_iff.1 (by omega)
    have hfull : (piece (st 0) (x.take 16)).length = 16 ∨ g (st 1) (blocks (x.drop 16)) = [] := by
      rcases Nat.lt_or_ge x.length 16 with hshort | hlong
      · exact .inr (by rw [List.drop_of_length_le hshort.le, blocks_nil, hg.nil])
      · exact .inl (by omega)
    rw [blocks_cons x hx, hg.cons, hst, blocks_append hne hhi hfull]
    cases j with
    | zero => rfl
    | succ j => exact ih (st := fun j => st (j + 1)) (fun j => hst (j + 1)) j

end

/-! ### The padded modes (R321) -/

section
variable {e d : Bytes → Bytes} (he : ∀ b, (e b).length = 16)
include he

theorem length_ecbBlocks {x : Bytes} (hx : FullBlocks x) : (ecbBlocks e x).length = x.length :=
  (isLoop_flatMap e).length_of_fullBlocks (fun _ => he) () hx

theorem length_cbcEncBlocks (iv : Bytes) {x : Bytes} (hx : FullBlocks x) :
    (cbcEncBlocks e iv (blocks x)).length = x.length :=
  (isLoop_cbcEncBlocks e).length_of_fullBlocks (fun _ _ => he _) iv hx

theorem length_xtsPiece {tweak : Nat → Bytes} (ht : ∀ j, (tweak j).length = 16) (j : Nat) (x : Bytes) :
    (xorBytes (e (xorBytes x (tweak j))) (tweak j)).length = 16 := by
  rw [length_xorBytes, he, ht, min_self]

theorem length_xtsBlocks {tweak : Nat → Bytes} (ht : ∀ j, (tweak j).length = 16) {x : Bytes} (hx : FullBlocks x) :
    (xtsBlocks e tweak 0 (blocks x)).length = x.length :=
  (isLoop_xtsBlocks e tweak).length_of_fullBlocks (length_xtsPiece he ht) 0 hx

variable (hd : ∀ b, b.length = 16 → d (e b) = b)
include hd

theorem ecbBlocks_round_trip {x : Bytes} (hx : FullBlocks x) : ecbBlocks d (ecbBlocks e x) = x :=
  (isLoop_flatMap e).round_trip (C := fun _ => True) (isLoop_flatMap d) (fun _ => he) (fun _ _ _ _ => trivial)
    (fun _ _ => rfl) (fun _ b _ => hd b) (a := ()) trivial hx

/-- Decryption takes off the ciphertext block that encryption has carried. -/
theorem cbcBlocks_round_trip {iv : Bytes} (hiv : iv.length = 16) {x : Bytes} (hx : FullBlocks x) :
    cbcDecBlocks d iv (blocks (cbcEncBlocks e iv (blocks x))) = x :=
  (isLoop_cbcEncBlocks e).round_trip (C := fun prev => prev.length = 16) (isLoop_cbcDecBlocks d) (fun _ _ => he _)
    (fun _ _ _ _ => he _) (fun _ _ => rfl)
    (fun prev b hprev hb => by
      rw [hd _ (by rw [length_xorBytes, hb, hprev, min_self]), xorBytes_cancel_right (by rw [hb, hprev])])
    hiv hx

/-- Both directions XOR the same tweak before and after the cipher. -/
theorem xtsBlocks_round_trip {tweak : Nat → Bytes} (ht : ∀ j, (tweak j).length = 16) {x : Bytes}
    (hx : FullBlocks x) : xtsBlocks d tweak 0 (blocks (xtsBlocks e tweak 0 (blocks x))) = x :=
  (isLoop_xtsBlocks e tweak).round_trip (C := fun _ => True) (isLoop_xtsBlocks d tweak) (length_xtsPiece he ht)
    (fun _ _ _ _ => trivial) (fun _ _ => rfl)
    (fun j b _ hb => by
      rw [xorBytes_cancel_right (by rw [he, ht]), hd _ (by rw [length_xorBytes, hb, ht, min_self]),
        xorBytes_cancel_right (by rw [hb, ht])])
    trivial hx

end

theorem unpadBytes_padBytes (x : Bytes) : unpadBytes (padBytes x) = .ok x := (paddedWith_padBytes x).unpadBytes_eq

/-- Settles O57: the padded data are full blocks, which every mode gives back, and unpad takes the padding off. -/
theorem paddedModesRoundTrip : Obligations.PaddedModesRoundTrip := by
  intro key iv x tweak hk hiv ht e d n
  have he : ∀ b, (e b).length = 16 := length_encryptBlock_of_key hk
  have hd : ∀ b, b.length = 16 → d (e b) = b := fun _ => decryptBlock_encryptBlock hk
  have hx := fullBlocks_of_length_mod (length_padBytes_mod x)
  have hn : (padBytes x).length = n := length_padBytes x
  exact ⟨(length_ecbBlocks he hx).trans hn, by rw [ecbBlocks_round_trip he hd hx, unpadBytes_padBytes],
    (length_cbcEncBlocks he iv hx).trans hn, by rw [cbcBlocks_round_trip he hd hiv hx, unpadBytes_padBytes],
    (length_xtsBlocks he ht hx).trans hn, by rw [xtsBlocks_round_trip he hd ht hx, unpadBytes_padBytes]⟩

/-! ### XTS under IF_UNALIGNED, and blocks on their own (R321) -/

theorem length_xtsPad_ifUnaligned (x : Bytes) :
    (xtsPad .ifUnaligned x).length = if x.length % 16 = 0 then x.length else x.length + (16 - x.length % 16) := by
  by_cases hx : x.length % 16 = 0
  · simp [xtsPad, hx]
  · simp [xtsPad, hx, padCount]

theorem fullBlocks_xtsPad_ifUnaligned (x : Bytes) : FullBlocks (xtsPad .ifUnaligned x) := by
  refine fullBlocks_of_length_mod ?_
  rw [length_xtsPad_ifUnaligned]
  split <;> omega

/-- Data that are not full blocks get longer. -/
theorem xtsPad_ifUnaligned_eq_iff {x : Bytes} : xtsPad .ifUnaligned x = x ↔ x.length % 16 = 0 := by
  refine ⟨fun h => ?_, fun h => by simp [xtsPad, h]⟩
  have hlen := congrArg List.length h
  rw [length_xtsPad_ifUnaligned] at hlen
  split at hlen <;> omega

theorem getElem?_blocks_ecbBlocks {f : Bytes → Bytes} (hf : ∀ b, (f b).length = 16) (x : Bytes) (j : Nat) :
    (blocks (ecbBlocks f x))[j]? = (blocks x)[j]?.map f :=
  (isLoop_flatMap f).getElem?_blocks (st := fun _ => ()) (fun _ _ => rfl) (fun _ b hb => by rw [hf]; exact ⟨hb, le_rfl⟩)
    x j

theorem getElem?_blocks_ctrStream {e : Bytes → Bytes} (he : ∀ b, (e b).length = 16) (nonce x : Bytes) (j : Nat) :
    (blocks (ctrStream e nonce x))[j]? =
      (blocks x)[j]?.map fun b => xorBytes b (e (nonce ++ be32 (BitVec.ofNat 32 j))) :=
  (isLoop_ctrBlocks nonce).getElem?_blocks (st := fun j => j) (fun _ _ => rfl)
    (fun _ b hb => by rw [length_xorBytes, he, min_eq_left hb]; exact ⟨le_rfl, hb⟩) x j

/-- Settles O60: XTS gives back what it encrypted, full blocks, and that is the data when no padding was added; ECB and
CTR make block `j` of block `j` alone. -/
theorem unalignedXtsAndIndependentBlocks : Obligations.UnalignedXtsAndIndependentBlocks := by
  refine ⟨fun key x tweak hk ht => ?_, fun key nonce x y j hk _ _ hblock => ⟨fun _ => ⟨?_, ?_⟩, ?_⟩⟩
  · intro cipher plain
    have he := length_encryptBlock_of_key hk
    have hx := fullBlocks_xtsPad_ifUnaligned x
    have hplain : plain = .ok (xtsPad .ifUnaligned x) :=
      congrArg Except.ok (xtsBlocks_round_trip he (fun _ => decryptBlock_encryptBlock hk) ht hx)
    refine ⟨(length_xtsBlocks he ht hx).trans (length_xtsPad_ifUnaligned x), hplain, ?_⟩
    rw [hplain, Except.ok.injEq, xtsPad_ifUnaligned_eq_iff]
  · rw [getElem?_blocks_ecbBlocks (length_encryptBlock_of_key hk), hblock,
      getElem?_blocks_ecbBlocks (length_encryptBlock_of_key hk)]
  · rw [getElem?_blocks_ecbBlocks (length_decryptBlock_of_key hk), hblock,
      getElem?_blocks_ecbBlocks (length_decryptBlock_of_key hk)]
  · rw [getElem?_blocks_ctrStream (length_encryptBlock_of_key hk), hblock,
      getElem?_blocks_ctrStream (length_encryptBlock_of_key hk)]

end Sys2Proof.Machine
end

section
/-! PROOFS. Family other: reads while busy, and writes to STATUS, to the registers and to the buffers. -/

namespace Sys2Proof.Machine

open Sys2Proof Sys2Proof.Claims

/-! ### What an offset names (R81) -/

theorem exists_reg_of_lt : ∀ o < 0x0038, ∃ r ∈ Reg.all, r.offset ≤ o ∧ o < r.offset + 4 := by decide

/-- Every offset names a byte of a register, a byte of a buffer, or a reserved byte. -/
theorem locate_cases (o : Nat) :
    (∃ r k, k < 4 ∧ o = Reg.offset r + k ∧ locate o = .reg r k) ∨
      (∃ b i, i < Buf.size b ∧ o = b.base + i ∧ locate o = .buf b i) ∨
      (0x0038 ≤ o ∧ ¬ inBuffer o ∧ locate o = .reserved) := by
  rcases Nat.lt_or_ge o 0x0038 with hreg | hhigh
  · obtain ⟨r, -, hlo, hhi⟩ := exists_reg_of_lt o hreg
    obtain ⟨k, rfl⟩ := Nat.exists_eq_add_of_le hlo
    exact .inl ⟨r, k, by omega, rfl, locate_reg r (by omega)⟩
  · by_cases hbuf : ∃ b ∈ Buf.all, b.base ≤ o ∧ o < b.base + b.size
    · obtain ⟨b, -, hlo, hhi⟩ := hbuf
      obtain ⟨i, rfl⟩ := Nat.exists_eq_add_of_le hlo
      exact .inr (.inl ⟨b, i, by omega, rfl, locate_buf b (by omega)⟩)
    · exact .inr (.inr ⟨hhigh, fun h => hbuf (Commit.exists_buf_iff_inBuffer.2 h),
        locate_reserved hhigh fun b hb => hbuf ⟨b, b.mem_all, hb⟩⟩)

/-- A byte written to a buffer: KEY takes it and drops the schedule, a read-only buffer ignores it (R50, R84). -/
theorem writePlace_buf (s : State) (b : Buf) (i : Nat) (x : Byte) :
    s.writePlace (.buf b i) x =
      if b = .key then (s.setBufByte .key i x).dropSchedule else if b.hostWritable then s.setBufByte b i x else s := by
  cases b <;> rfl

/-! ### Reads while busy (R89) -/

theorem isOutput_locate_of_reg : ∀ o < 0x0038, (locate o).isOutput = true ↔ outputOffset o := by decide

/-- The outputs are those of R89. -/
theorem isOutput_locate_iff {o : Nat} : (locate o).isOutput = true ↔ outputOffset o := by
  rcases locate_cases o with ⟨r, k, hk, rfl, -⟩ | ⟨b, i, hi, rfl, hloc⟩ | ⟨hhigh, hbuf, hloc⟩
  · have hr := r.offset_bounds
    exact isOutput_locate_of_reg _ (by omega)
  · rw [hloc]
    cases b <;>
      simp only [Place.isOutput, Buf.base, Buf.size, outputOffset, true_iff, Bool.false_eq_true, false_iff] at hi ⊢ <;>
      omega
  · rw [hloc]
    simp only [Place.isOutput, outputOffset, Bool.false_eq_true, false_iff]
    omega

theorem busByte_of_not_output {s : State} {o : Nat} (h : ¬ outputOffset o) (d : Nat) :
    s.busByte o d = (s.placeByte (locate o), d) :=
  if_neg fun hout => h (isOutput_locate_iff.1 (Bool.and_eq_true_iff.1 hout).2)

theorem busByte_of_output {s : State} (hb : s.busy = true) {o : Nat} (h : outputOffset o) (d : Nat) :
    s.busByte o d = (Config.busyByte d, d + 1) :=
  if_pos (Bool.and_eq_true_iff.2 ⟨hb, isOutput_locate_iff.2 h⟩)

/-- A read takes its bytes one after another; `δ k` is the number of draws before byte `k`. -/
theorem busBytes_eq {s : State} {n o : Nat} {f : Nat → Byte} {δ : Nat → Nat}
    (h : ∀ k < n, s.busByte (o + k) (δ k) = (f k, δ (k + 1))) :
    s.busBytes o n (δ 0) = ((List.range n).map f, δ n) := by
  induction n generalizing o f δ with
  | zero => rfl
  | succ n ih =>
    have hfirst : s.busByte o (δ 0) = (f 0, δ 1) := h 0 (by omega)
    have hrest : s.busBytes (o + 1) n (δ 1) = ((List.range n).map fun k => f (k + 1), δ (n + 1)) :=
      ih (δ := fun k => δ (k + 1)) fun k hk => by
        rw [Nat.add_assoc, Nat.add_comm 1]
        exact h (k + 1) (by omega)
    rw [State.busBytes, hfirst, hrest, List.range_succ_eq_map, List.map_cons, List.map_map]
    rfl

/-- The word that the bytes of an aligned read make has their sum (R82). -/
theorem toNat_leWord_map (f : Nat → Byte) (z : AccessSize) :
    (leWord ((List.range z.bytes).map f)).toNat = leSum f z.bytes := by
  rw [toNat_leWord _ (by simpa using z.bytes_bounds.2), leNat_map_range]

theorem step_read_aligned {s : State} {o : BitVec 15} {z : AccessSize} {rest : List Event}
    (h : nextIs s (.hostRead o z) rest) (ha : o.toNat % z.bytes = 0) {f : Nat → Byte} {δ : Nat → Nat}
    (hstart : δ 0 = s.draws)
    (hbytes : ∀ k < z.bytes, State.busByte { s with schedule := rest } (o.toNat + k) (δ k) = (f k, δ (k + 1))) :
    ∃ v : Word, step s = .next { s with schedule := rest, response := some (.data v), draws := δ z.bytes } ∧
      v.toNat = leSum f z.bytes := by
  refine ⟨_, ?_, toNat_leWord_map f z⟩
  have hall := busBytes_eq hbytes
  rw [hstart] at hall
  rw [step_hostRead h, hostRead_aligned _ ha, hall]
  rfl

/-- Settles O13: the bytes of an aligned access are all inputs or all outputs. -/
theorem busyReadAnswersInputsAndDraws : Obligations.BusyReadAnswersInputsAndDraws := by
  intro s o z rest hnext hbusy ha
  have hb : State.busy { s with schedule := rest } = true := busy_eq_true hbusy
  have hword := aligned_within_word z ha
  have hsame : ∀ k < z.bytes, outputOffset (o.toNat + k) ↔ outputOffset o.toNat := fun k hk => by
    simp only [outputOffset]
    omega
  refine ⟨fun hin => ?_, fun hout => ?_⟩
  · exact step_read_aligned (δ := fun _ => s.draws) hnext ha rfl fun k hk =>
      busByte_of_not_output (fun h => hin ((hsame k hk).1 h)) _
  · exact step_read_aligned (δ := fun k => s.draws + k) hnext ha rfl fun k hk =>
      busByte_of_output hb ((hsame k hk).2 hout) _

/-! ### STATUS (R35) -/

theorem errcodeValue_lt (s : State) : s.errcodeValue < 16 := by
  unfold State.errcodeValue
  cases s.errcode with
  | none => decide
  | some e => cases e <;> decide

theorem err_eq_true_iff {s : State} : s.err = true ↔ s.errcode ≠ none := by
  unfold State.err State.errcodeValue
  cases s.errcode with
  | none => decide
  | some e => cases e <;> decide

theorem getLsbD_bitAt (b : Bool) (k : Nat) {j : Nat} (hj : j < 32) : (bitAt b k).getLsbD j = (decide (j = k) && b) := by
  rcases Nat.lt_trichotomy j k with hlt | rfl | hgt
  · simp [bitAt, hlt, hlt.ne]
  · simp [bitAt, hj]
  · have hsub : j - k ≠ 0 := by omega
    simp [bitAt, hj, hgt.ne', hsub]

/-- Bit `j` of STATUS, from the flags and the two fields. -/
theorem getLsbD_statusWord (s : State) {j : Nat} (hj : j < 32) :
    s.statusWord.getLsbD j =
      ((decide (j = 0) && s.busy) || (decide (j = 1) && s.done) || (decide (j = 2) && s.err) ||
        (decide (j = 3) && s.ksValid) || (decide (j = 4) && s.wdrop) ||
        (!decide (j < 8) && s.errcodeValue.testBit (j - 8)) || (!decide (j < 16) && s.ksNr.getLsbD (j - 16))) := by
  have h8 : j - 8 < 32 := by omega
  have h16 : j - 16 < 32 := by omega
  simp only [State.statusWord, BitVec.getLsbD_or, getLsbD_bitAt _ _ hj, BitVec.getLsbD_shiftLeft,
    BitVec.getLsbD_setWidth, BitVec.getLsbD_ofNat, hj, h8, h16, decide_true, Bool.true_and]

/-- ERRCODE has 4 bits. -/
theorem testBit_errcodeValue (s : State) {j : Nat} (hj : 4 ≤ j) : s.errcodeValue.testBit j = false :=
  Nat.testBit_lt_two_pow ((errcodeValue_lt s).trans_le (Nat.pow_le_pow_right (n := 2) (by decide) hj))

/-- The reserved bits of STATUS read 0: no flag stands there, and the two fields have 4 bits each. -/
theorem getLsbD_statusWord_reserved (s : State) {j : Nat}
    (hj : (5 ≤ j ∧ j < 8) ∨ (12 ≤ j ∧ j < 16) ∨ (20 ≤ j ∧ j < 32)) : s.statusWord.getLsbD j = false := by
  have hflags : j ≠ 0 ∧ j ≠ 1 ∧ j ≠ 2 ∧ j ≠ 3 ∧ j ≠ 4 := by omega
  have herr : (!decide (j < 8) && s.errcodeValue.testBit (j - 8)) = false := by
    rcases Nat.lt_or_ge j 8 with hlow | hhigh
    · simp [hlow]
    · rw [testBit_errcodeValue s (by omega), Bool.and_false]
  have hnr : (!decide (j < 16) && s.ksNr.getLsbD (j - 16)) = false := by
    rcases Nat.lt_or_ge j 16 with hlow | hhigh
    · simp [hlow]
    · rw [BitVec.getLsbD_of_ge _ _ (by omega), Bool.and_false]
  rw [getLsbD_statusWord s (by omega), herr, hnr]
  simp [hflags]

/-- A field of STATUS whose bits are all known. -/
theorem extractLsb'_statusWord (s : State) {lo n : Nat} {x : BitVec n}
    (h : ∀ j < n, s.statusWord.getLsbD (lo + j) = x.getLsbD j) : s.statusWord.extractLsb' lo n = x := by
  refine BitVec.eq_of_getLsbD_eq fun j hj => ?_
  rw [BitVec.getLsbD_extractLsb', h j hj, decide_eq_true hj, Bool.true_and]

theorem extractLsb'_statusWord_errcode (s : State) :
    s.statusWord.extractLsb' 8 4 = BitVec.ofNat 4 s.errcodeValue :=
  extractLsb'_statusWord s fun j hj => by
    rw [getLsbD_statusWord s (by omega), BitVec.getLsbD_ofNat]
    interval_cases j <;> simp

theorem extractLsb'_statusWord_ksNr (s : State) : s.statusWord.extractLsb' 16 4 = s.ksNr :=
  extractLsb'_statusWord s fun j hj => by
    rw [getLsbD_statusWord s (by omega), testBit_errcodeValue s (by omega)]
    interval_cases j <;> simp

/-- Settles O15: each bit of STATUS is a flag, a bit of a field, or 0; writes are `step_write_status`. -/
theorem statusRegister : Obligations.StatusRegister := by
  refine ⟨fun s => ⟨?_, ?_, ?_, ?_, ?_, ?_, ?_, ?_, extractLsb'_statusWord_ksNr s, ?_⟩,
    fun s o z v rest hnext ha hlo hhi => step_write_status hnext ha ⟨hlo, hhi⟩⟩
  · rw [statusWord_busy, State.busy, Option.isSome_iff_ne_none]
  · rw [getLsbD_statusWord s (by decide)]; simp
  · rw [getLsbD_statusWord s (by decide), ← err_eq_true_iff]; simp
  · rw [getLsbD_statusWord s (by decide)]; simp
  · rw [getLsbD_statusWord s (by decide)]; simp
  · exact extractLsb'_statusWord s fun j hj => (getLsbD_statusWord_reserved s (by omega)).trans BitVec.getLsbD_zero.symm
  · rw [extractLsb'_statusWord_errcode, BitVec.toNat_ofNat, Nat.mod_eq_of_lt (errcodeValue_lt s)]
  · exact extractLsb'_statusWord s fun j hj => (getLsbD_statusWord_reserved s (by omega)).trans BitVec.getLsbD_zero.symm
  · exact extractLsb'_statusWord s fun j hj => (getLsbD_statusWord_reserved s (by omega)).trans BitVec.getLsbD_zero.symm

end Sys2Proof.Machine
end

section
/-! PROOFS. Family other: aligned writes while idle to the registers, the reserved offsets and the buffers. -/

namespace Sys2Proof.Machine

open Sys2Proof Sys2Proof.Claims

/-! ### An aligned write while idle -/

section
variable {s : State} {o : BitVec 15} {z : AccessSize} {v : Word} {rest : List Event}

/-- Outside CMD the bytes of the write are applied one after another (R84). -/
theorem step_write_idle (h : nextIs s (.hostWrite o z v) rest) (hidle : s.pending = none)
    (ha : o.toNat % z.bytes = 0) (hcmd : ¬ (0x000C ≤ o.toNat ∧ o.toNat < 0x0010)) :
    step s =
      .next ((State.writeBytes { s with schedule := rest } o.toNat (leBytes v z.bytes)).respond .ack) := by
  have hb : State.busy { s with schedule := rest } = false := busy_eq_false hidle
  rw [step_hostWrite h, hostWrite_aligned _ v ha, State.alignedWrite, if_neg (by simp [hb]), if_neg hcmd]

end

theorem nth_leBytes (v : Word) {n m : Nat} (hm : m < n) : nth (leBytes v n) m = byteOf v m := by
  simp [nth, leBytes, hm]

/-! ### The fields of the registers (R34, R37 to R43) -/

/-- A write to register `r` in `s` leaves `upd f`, `f` being its field of `w` bits, `f₀` before; each byte is put into
the register's word and the field is what then stands in the low `w` bits (R84). -/
structure WritesField (s : State) (r : Reg) {w : Nat} (f₀ : BitVec w) (upd : BitVec w → State) : Prop where
  first : ∀ k b, s.writePlace (.reg r k) b = (upd f₀).writePlace (.reg r k) b
  step : ∀ f k b, (upd f).writePlace (.reg r k) b = upd ((withByte (f.setWidth 32) k b).setWidth w)

/-- A write to KEYLEN drops the schedule (R50). -/
theorem writesField_keylen (s : State) :
    WritesField s .keylen s.keylen fun f => { s with keylen := f, ksValid := false, ksNr := 0 } :=
  ⟨fun _ _ => rfl, fun _ _ _ => rfl⟩

theorem writesField_ivlen (s : State) : WritesField s .ivlen s.ivlen fun f => { s with ivlen := f } :=
  ⟨fun _ _ => rfl, fun _ _ _ => rfl⟩

theorem writesField_dlen (s : State) : WritesField s .dlen s.dlen fun f => { s with dlen := f } :=
  ⟨fun _ _ => rfl, fun _ _ _ => rfl⟩

theorem writesField_aadlen (s : State) : WritesField s .aadlen s.aadlen fun f => { s with aadlen := f } :=
  ⟨fun _ _ => rfl, fun _ _ _ => rfl⟩

theorem writesField_sector (s : State) : WritesField s .sector s.sector fun f => { s with sector := f } :=
  ⟨fun _ _ => rfl, fun f k b => by rw [BitVec.setWidth_eq, BitVec.setWidth_eq]; rfl⟩

theorem writesField_gfop (s : State) : WritesField s .gfop s.gfop fun f => { s with gfop := f } :=
  ⟨fun _ _ => rfl, fun _ _ _ => rfl⟩

section
variable {s : State} {r : Reg} {w : Nat} {f₀ : BitVec w} {upd : BitVec w → State} (hfield : WritesField s r f₀ upd)
  (hw : w ≤ 32)
include hfield hw

/-- The bytes `bs` written from byte `k` of the register on: bit `j` is in byte `j / 8`. -/
theorem WritesField.writeBytes_upd {bs : Bytes} {k : Nat} (hk : k + bs.length ≤ 4) (f : BitVec w) :
    ∃ g, (upd f).writeBytes (r.offset + k) bs = upd g ∧ ∀ j < w, g.getLsbD j =
      if k ≤ j / 8 ∧ j / 8 < k + bs.length then (nth bs (j / 8 - k)).getLsbD (j % 8) else f.getLsbD j := by
  induction bs generalizing k f with
  | nil => exact ⟨f, rfl, fun j _ => by rw [List.length_nil, if_neg (by omega)]⟩
  | cons b bs ih =>
    rw [List.length_cons] at hk ⊢
    obtain ⟨g, hg, hbits⟩ := ih (k := k + 1) (by omega) ((withByte (f.setWidth 32) k b).setWidth w)
    refine ⟨g, ?_, fun j hj => ?_⟩
    · rw [State.writeBytes, locate_reg r (by omega), hfield.step]
      exact hg
    · have hbyte : ((withByte (f.setWidth 32) k b).setWidth w).getLsbD j =
          if j / 8 = k then b.getLsbD (j % 8) else f.getLsbD j := by
        have hj32 : j < 32 := hj.trans_le hw
        simp only [BitVec.getLsbD_setWidth, getLsbD_withByte _ _ _ hj32, hj, hj32, decide_true, Bool.true_and]
      rw [hbits j hj, hbyte]
      rcases Nat.lt_trichotomy (j / 8) k with hlt | heq | hgt
      · rw [if_neg (by omega), if_neg (by omega), if_neg (by omega)]
      · rw [if_neg (by omega), if_pos heq, if_pos (by omega), heq, Nat.sub_self]
        rfl
      · have hsub : j / 8 - k = j / 8 - (k + 1) + 1 := by omega
        rw [if_neg (by omega : ¬ j / 8 = k), hsub]
        exact if_congr (by omega) rfl rfl

/-- The written bits of the field are those of the value, in the words of R84. -/
theorem WritesField.writeBytes {o : Nat} {z : AccessSize} (v : Word) (hwithin : r.offset ≤ o ∧ o < r.offset + 4)
    (ha : o % z.bytes = 0) :
    ∃ g, s.writeBytes o (leBytes v z.bytes) = upd g ∧
      ∀ j < w, g.getLsbD j = writtenBit o z v r.offset (f₀.getLsbD j) j := by
  have hr := r.offset_bounds
  have hn := z.bytes_bounds
  have hword := aligned_within_word z ha
  obtain ⟨k, rfl⟩ := Nat.exists_eq_add_of_le hwithin.1
  have hstart : s.writeBytes (r.offset + k) (leBytes v z.bytes) =
      (upd f₀).writeBytes (r.offset + k) (leBytes v z.bytes) := by
    rw [leBytes_eq_cons, State.writeBytes, State.writeBytes, locate_reg r (by omega), hfield.first]
  obtain ⟨g, hg, hbits⟩ := hfield.writeBytes_upd hw (bs := leBytes v z.bytes) (k := k)
    (by rw [length_leBytes]; omega) f₀
  refine ⟨g, hstart.trans hg, fun j hj => ?_⟩
  rw [hbits j hj, length_leBytes, writtenBit]
  refine ite_congr (propext (by omega)) (fun hin => ?_) fun _ => rfl
  have hbit : 8 * (j / 8 - k) + j % 8 = j - 8 * (r.offset + k - r.offset) := by omega
  rw [nth_leBytes v (by omega), byteOf, BitVec.getLsbD_extractLsb', hbit, decide_eq_true (by omega : j % 8 < 8),
    Bool.true_and]

end

section
variable {s : State} {rest : List Event} {r : Reg} {w : Nat} {f₀ : BitVec w} {upd : BitVec w → State}
  (hfield : WritesField { s with schedule := rest } r f₀ upd) (hw : w ≤ 32) {v : Word} (hidle : s.pending = none)
include hfield hw hidle

theorem WritesField.step_write {o : BitVec 15} {z : AccessSize} (hnext : nextIs s (.hostWrite o z v) rest)
    (ha : o.toNat % z.bytes = 0) (hwithin : r.offset ≤ o.toNat ∧ o.toNat < r.offset + 4)
    (hcmd : ¬ (0x000C ≤ o.toNat ∧ o.toNat < 0x0010)) :
    ∃ g, Machine.step s = .next ((upd g).respond .ack) ∧
      ∀ j < w, g.getLsbD j = writtenBit o.toNat z v r.offset (f₀.getLsbD j) j := by
  obtain ⟨g, hg, hbits⟩ := hfield.writeBytes hw v hwithin ha
  exact ⟨g, by rw [step_write_idle hnext hidle ha hcmd, hg], hbits⟩

/-- A 32-bit write sets the whole field. -/
theorem WritesField.step_write_word {o : BitVec 15} (ho : o.toNat = r.offset)
    (hnext : nextIs s (.hostWrite o .word v) rest) (hcmd : r ≠ .cmd) :
    Machine.step s = .next ((upd (v.extractLsb' 0 w)).respond .ack) := by
  have hr := r.offset_bounds
  have hne : r.offset ≠ 0x000C := fun h => hcmd (Reg.offset_injective (q := .cmd) h)
  obtain ⟨g, hg, hbits⟩ := hfield.step_write hw hidle hnext (by rw [ho]; exact hr.1) (by omega) (by omega)
  have hvalue : g = v.extractLsb' 0 w := by
    refine BitVec.eq_of_getLsbD_eq fun j hj => ?_
    rw [hbits j hj, writtenBit, ho, AccessSize.bytes, if_pos (by omega), BitVec.getLsbD_extractLsb']
    simp [hj]
  rw [hg, hvalue]

end

/-! ### Writes that are ignored (R55, R84, R85) -/

theorem writePlace_ignored {a : Nat} (h : ignoresWrites a) (s : State) (b : Byte) :
    s.writePlace (locate a) b = s := by
  rcases locate_cases a with ⟨r, k, hk, rfl, hloc⟩ | ⟨c, i, hi, rfl, -⟩ | ⟨-, -, hloc⟩
  · rw [hloc]
    cases r with
    | id | cap | olen | gfres | traceCount => rfl
    | _ => simp only [ignoresWrites, Reg.offset] at h; omega
  · cases c <;> simp only [ignoresWrites, Buf.base, Buf.size] at h hi <;> omega
  · rw [hloc]
    rfl

theorem writeBytes_ignoresWrites {s : State} {o : Nat} {z : AccessSize} (v : Word) (h : ignoresWrites o)
    (ha : o % z.bytes = 0) : s.writeBytes o (leBytes v z.bytes) = s := by
  have hword := aligned_within_word z ha
  refine writeBytes_ignored fun k hk b => writePlace_ignored ?_ s b
  rw [length_leBytes] at hk
  simp only [ignoresWrites] at h ⊢
  omega

theorem writtenBit_ctrl {o : BitVec 15} {z : AccessSize} (v : Word) (old : Bool) (hlo : 0x0008 ≤ o.toNat) :
    writtenBit o.toNat z v 0x0008 old 0 = if o = 0x0008 then v.getLsbD 0 else old := by
  have hn := z.bytes_bounds
  rw [writtenBit, Nat.zero_sub]
  refine if_congr ?_ rfl rfl
  rw [← BitVec.toNat_inj]
  show _ ↔ o.toNat = 8
  omega

/-- Settles O18: each register by its field, CTRL by its one bit; ignored offsets ignore every byte of the write. -/
theorem registerWritesSetTheirFields : Obligations.RegisterWritesSetTheirFields := by
  refine ⟨fun s o v rest hnext hidle => ?_, fun s o z v rest hnext hidle ha => ?_⟩
  · intro t
    refine ⟨?_, ?_, ?_, ?_, ?_, ?_, ?_⟩ <;> rintro rfl
    · exact step_write_ctrl hnext (by decide) (by decide)
    · exact (writesField_keylen _).step_write_word (by decide) hidle rfl hnext nofun
    · exact (writesField_ivlen _).step_write_word (by decide) hidle rfl hnext nofun
    · exact (writesField_dlen _).step_write_word (by decide) hidle rfl hnext nofun
    · exact (writesField_aadlen _).step_write_word (by decide) hidle rfl hnext nofun
    · have hsector := (writesField_sector _).step_write_word (by decide) hidle rfl hnext nofun
      rwa [BitVec.extractLsb'_eq_self] at hsector
    · exact (writesField_gfop _).step_write_word (by decide) hidle rfl hnext nofun
  · intro t within
    refine ⟨fun hin => ?_, fun hin => ?_, fun hin => ?_, fun hin => ?_, fun hin => ?_, fun hin => ?_, fun hin => ?_,
      fun hin => ?_⟩
    · rw [writtenBit_ctrl v s.irqEn hin.1]
      exact step_write_ctrl hnext ha hin
    · exact (writesField_keylen _).step_write (by decide) hidle hnext ha hin (by omega)
    · exact (writesField_ivlen _).step_write (by decide) hidle hnext ha hin (by omega)
    · exact (writesField_dlen _).step_write (by decide) hidle hnext ha hin (by omega)
    · exact (writesField_aadlen _).step_write (by decide) hidle hnext ha hin (by omega)
    · exact (writesField_sector _).step_write (by decide) hidle hnext ha hin (by omega)
    · exact (writesField_gfop _).step_write (by decide) hidle hnext ha hin (by omega)
    · rw [step_write_idle hnext hidle ha (by simp only [ignoresWrites] at hin; omega),
        writeBytes_ignoresWrites v hin ha]
      rfl

/-! ### Writes to the buffers (R50, R84) -/

/-- The offsets of the buffers that take a host's byte are those of the operands. -/
theorem hostWritable_iff {b : Buf} {i : Nat} (hi : i < b.size) :
    b.hostWritable = true ↔ operandOffset (b.base + i) := by
  cases b <;>
    simp only [Buf.hostWritable, Buf.base, Buf.size, operandOffset, true_iff, Bool.false_eq_true, false_iff] at hi ⊢ <;>
    omega

theorem eq_key_iff {b : Buf} {i : Nat} (hi : i < b.size) : b = .key ↔ b.base + i < 0x0080 := by
  cases b <;> simp only [Buf.base, Buf.size, true_iff, reduceCtorEq, false_iff] at hi ⊢ <;> omega

/-- One byte written to a buffer offset: a writable buffer stores it, and KEY drops the schedule. -/
theorem writePlace_inBuffer (s : State) {a : Nat} (ha : inBuffer a) (b : Byte) :
    s.writePlace (locate a) b = { s with
      mem := if operandOffset a then s.mem.setRange a [b] else s.mem
      ksValid := if a < 0x0080 then false else s.ksValid
      ksNr := if a < 0x0080 then 0 else s.ksNr } := by
  obtain ⟨c, -, hlo, hhi⟩ := Commit.exists_buf_iff_inBuffer.2 ha
  obtain ⟨i, rfl⟩ := Nat.exists_eq_add_of_le hlo
  have hi : i < c.size := by omega
  rw [locate_buf c hi, writePlace_buf]
  by_cases hkey : c = .key
  · have hlow := (eq_key_iff hi).1 hkey
    subst hkey
    rw [if_pos rfl, if_pos hlow, if_pos hlow, if_pos ((hostWritable_iff hi).1 rfl)]
    rfl
  · have hhigh := mt (eq_key_iff hi).2 hkey
    rw [if_neg hkey, if_neg hhigh, if_neg hhigh]
    by_cases hwritable : c.hostWritable = true
    · rw [if_pos hwritable, if_pos ((hostWritable_iff hi).1 hwritable)]
      rfl
    · rw [if_neg hwritable, if_neg (mt (hostWritable_iff hi).2 hwritable)]

theorem byteAt_writePlace_inBuffer (s : State) {a : Nat} (ha : inBuffer a) (b : Byte) (x : Nat) :
    (s.writePlace (locate a) b).byteAt x = if x = a ∧ operandOffset a then b else s.byteAt x := by
  have hwritten := writePlace_inBuffer s ha b
  have hresets : (s.writePlace (locate a) b).resets = s.resets := by rw [hwritten]
  by_cases hop : operandOffset a
  · have hmem : (s.writePlace (locate a) b).mem = s.mem.setRange a [b] := by rw [hwritten]; exact if_pos hop
    rw [byteAt_of_setRange hmem hresets, List.length_singleton]
    by_cases hx : x = a
    · subst hx
      rw [if_pos (by omega), if_pos ⟨rfl, hop⟩, Nat.sub_self]
      rfl
    · rw [if_neg (by omega), if_neg fun h => hx h.1]
  · have hmem : (s.writePlace (locate a) b).mem = s.mem := by rw [hwritten]; exact if_neg hop
    rw [byteAt_of_mem_eq hmem hresets, if_neg fun h => hop h.2]

/-- What holds of `n + 1` offsets from `o` on holds of the `n` from `o + 1` on. -/
theorem forall_add_one_of_forall_lt_succ {P : Nat → Prop} {o n : Nat} (h : ∀ k < n + 1, P (o + k)) :
    ∀ k < n, P (o + 1 + k) := fun k hk => by
  rw [Nat.add_assoc, Nat.add_comm 1]
  exact h (k + 1) (Nat.succ_lt_succ hk)

/-- Bytes written to buffer offsets change the memory alone, and a first one in KEY drops the schedule. -/
theorem writeBytes_inBuffer {s : State} {o : Nat} {bs : Bytes} (h : ∀ k < bs.length, inBuffer (o + k)) :
    ∃ m, s.writeBytes o bs = { s with
      mem := m
      ksValid := if o < 0x0080 ∧ bs ≠ [] then false else s.ksValid
      ksNr := if o < 0x0080 ∧ bs ≠ [] then 0 else s.ksNr } := by
  induction bs generalizing s o with
  | nil => exact ⟨s.mem, by simp [State.writeBytes]⟩
  | cons b bs ih =>
    have ho : inBuffer o := h 0 (Nat.zero_lt_succ _)
    obtain ⟨m, hm⟩ := ih (s := s.writePlace (locate o) b) (o := o + 1) (forall_add_one_of_forall_lt_succ h)
    refine ⟨m, ?_⟩
    rw [State.writeBytes, hm, writePlace_inBuffer s ho]
    by_cases hkey : o < 0x0080
    · simp [hkey]
    · have hnext : ¬ o + 1 < 0x0080 := by omega
      simp [hkey, hnext]

/-- Each written byte of a writable buffer is stored, and every other byte stays. -/
theorem byteAt_writeBytes_inBuffer {s : State} {o : Nat} {bs : Bytes} (h : ∀ k < bs.length, inBuffer (o + k))
    (a : Nat) :
    (s.writeBytes o bs).byteAt a =
      if o ≤ a ∧ a < o + bs.length ∧ operandOffset a then nth bs (a - o) else s.byteAt a := by
  induction bs generalizing s o with
  | nil => rw [List.length_nil, if_neg (by omega)]; rfl
  | cons b bs ih =>
    have ho : inBuffer o := h 0 (Nat.zero_lt_succ _)
    rw [State.writeBytes, ih (forall_add_one_of_forall_lt_succ h), byteAt_writePlace_inBuffer s ho, List.length_cons]
    rcases Nat.lt_trichotomy a o with hlt | rfl | hgt
    · rw [if_neg (by omega), if_neg (by omega), if_neg (by omega)]
    · rw [if_neg (by omega), Nat.sub_self]
      exact if_congr (by omega) rfl rfl
    · have hsub : a - o = a - (o + 1) + 1 := by omega
      rw [if_neg (by omega : ¬ (a = o ∧ operandOffset o)), hsub]
      exact if_congr (by omega) rfl rfl

/-- Settles O19: all the bytes of an aligned write lie in buffers; each is stored if its buffer is writable. -/
theorem bufferWritesStoreTheirBytes : Obligations.BufferWritesStoreTheirBytes := by
  intro s o z v rest hnext hidle ha hbuf
  have hword := aligned_within_word z ha
  have hbytes : ∀ k < (leBytes v z.bytes).length, inBuffer (o.toNat + k) := fun k hk => by
    rw [length_leBytes] at hk
    simp only [inBuffer] at hbuf ⊢
    omega
  have hne : leBytes v z.bytes ≠ [] := by rw [leBytes_eq_cons]; exact List.cons_ne_nil _ _
  refine ⟨_, step_write_idle hnext hidle ha (by simp only [inBuffer] at hbuf; omega), ?_, fun a => ?_⟩
  · obtain ⟨m, hm⟩ := writeBytes_inBuffer (s := { s with schedule := rest }) hbytes
    rw [hm]
    simp only [hne, ne_eq, not_false_eq_true, and_true]
    rfl
  · rw [byteAt_respond, byteAt_writeBytes_inBuffer hbytes, length_leBytes]
    refine ite_congr rfl (fun hin => ?_) fun _ => rfl
    exact nth_leBytes v (by omega)

end Sys2Proof.Machine
end

section
/-! PROOFS. Family other: every step keeps the invariant of the engine. -/

namespace Sys2Proof.Machine

open Sys2Proof Sys2Proof.Claims

/-! ### Updates that keep the invariant -/

/-- The invariant speaks of the memory, the schedule flags, KEYLEN, the output counters and the report of a completion
alone. -/
theorem State.Inv.congr {s t : State} (h : s.Inv) (hmem : t.mem = s.mem) (hresets : t.resets = s.resets)
    (hvalid : t.ksValid = s.ksValid) (hnr : t.ksNr = s.ksNr) (hkeylen : t.keylen = s.keylen) (holen : t.olen = s.olen)
    (hcount : t.traceCount = s.traceCount) (hbusy : t.busyIsClean) : t.Inv where
  memCanonical := hmem ▸ h.memCanonical
  memInBuffers := fun c hc => h.memInBuffers c (hmem ▸ hc)
  schedule := by rw [State.ksConsistent, hvalid, hnr]; exact h.schedule
  roundKey := roundKeyMatchesKey_congr hvalid hnr hkeylen (fun _ _ => byteAt_of_mem_eq hmem hresets _)
    (fun _ _ => byteAt_of_mem_eq hmem hresets _) h.roundKey
  counters := by rw [State.countersInRange, holen, hcount]; exact h.counters
  busy := hbusy

theorem State.Inv.completeErr {s : State} (h : s.Inv) (e : ErrCode) : (s.completeErr e).Inv :=
  h.congr rfl rfl rfl rfl rfl rfl rfl nofun

theorem State.Inv.completeOk {s : State} (h : s.Inv) : s.completeOk.Inv :=
  h.congr rfl rfl rfl rfl rfl rfl rfl nofun

theorem State.Inv.accept {s : State} (h : s.Inv) (w : Word) : (s.accept w).Inv :=
  h.congr rfl rfl rfl rfl rfl rfl rfl fun _ => ⟨rfl, rfl⟩

/-- A dropped schedule promises nothing of ROUNDKEY (R50). -/
theorem State.Inv.dropSchedule {s : State} (hwf : s.mem.wf) (hin : s.memInBuffers) (hcount : s.countersInRange)
    (hbusy : s.busyIsClean) : s.dropSchedule.Inv :=
  ⟨hwf, hin, .inr ⟨rfl, rfl⟩, roundKeyMatchesKey_of_invalid rfl, hcount, hbusy⟩

/-- Empty memory, and every flag and counter at 0, as reset leaves them (R380). -/
theorem inv_of_reset {s : State} (hmem : s.mem = []) (hvalid : s.ksValid = false) (hnr : s.ksNr = 0)
    (holen : s.olen = 0) (hcount : s.traceCount = 0) (hidle : s.pending = none) : s.Inv where
  memCanonical := hmem ▸ List.Pairwise.nil
  memInBuffers := by simp [hmem]
  schedule := .inr ⟨hvalid, hnr⟩
  roundKey := roundKeyMatchesKey_of_invalid hvalid
  counters := by rw [State.countersInRange, holen, hcount]; decide
  busy := by simp [hidle]

/-! ### Host writes (R84, R87, R88) -/

theorem memInBuffers_setBufByte {s : State} (h : s.memInBuffers) {b : Buf} {i : Nat} (hi : i < b.size) (x : Byte) :
    (s.setBufByte b i x).memInBuffers := by
  intro c hc
  rcases mem_setRange hc with hold | ⟨hlo, hhi⟩
  · exact h c hold
  · rw [List.length_singleton] at hhi
    exact ⟨b, b.mem_all, by omega, by omega⟩

theorem byteAt_setBufByte_of_ne (s : State) {b c : Buf} (hbc : b ≠ c) {i j : Nat} (hi : i < b.size) (hj : j < c.size)
    (x : Byte) : (s.setBufByte b i x).byteAt (c.base + j) = s.byteAt (c.base + j) := by
  have hdisjoint := Buf.disjoint hbc
  refine (byteAt_of_setRange (t := s.setBufByte b i x) rfl rfl _).trans (if_neg ?_)
  rw [List.length_singleton]
  omega

/-- A byte written to a buffer other than KEY and ROUNDKEY leaves the promise about ROUNDKEY as it is. -/
theorem State.Inv.setBufByte {s : State} (h : s.Inv) {b : Buf} (hkey : b ≠ .key) (hround : b ≠ .roundKey) {i : Nat}
    (hi : i < b.size) (x : Byte) : (s.setBufByte b i x).Inv where
  memCanonical := setRange_wf h.memCanonical _ _
  memInBuffers := memInBuffers_setBufByte h.memInBuffers hi x
  schedule := h.schedule
  roundKey := roundKeyMatchesKey_congr (s := s) rfl rfl rfl (fun _ hk => byteAt_setBufByte_of_ne s hkey hi hk x)
    (fun _ hk => byteAt_setBufByte_of_ne s hround hi hk x) h.roundKey
  counters := h.counters
  busy := h.busy

theorem State.Inv.writePlace_reg {s : State} (h : s.Inv) (r : Reg) (k : Nat) (x : Byte) :
    (s.writePlace (.reg r k) x).Inv := by
  cases r with
  | keylen => exact .dropSchedule h.memCanonical h.memInBuffers h.counters h.busy
  | status =>
    rw [writePlace_status]
    split
    · refine h.congr rfl rfl rfl rfl rfl rfl rfl fun hbusy => ?_
      obtain ⟨hdone, herr⟩ := h.busy hbusy
      exact ⟨by simp [hdone], herr⟩
    · exact h
  | _ => exact h.congr rfl rfl rfl rfl rfl rfl rfl h.busy

theorem State.Inv.writePlace_buf {s : State} (h : s.Inv) {b : Buf} {i : Nat} (hi : i < b.size) (x : Byte) :
    (s.writePlace (.buf b i) x).Inv := by
  rw [Machine.writePlace_buf]
  split_ifs with hkey hwritable
  · subst hkey
    exact .dropSchedule (setRange_wf h.memCanonical _ _) (memInBuffers_setBufByte h.memInBuffers hi x) h.counters h.busy
  · exact h.setBufByte hkey (by rintro rfl; cases hwritable) hi x
  · exact h

theorem State.Inv.writeBytes {s : State} (h : s.Inv) (o : Nat) (bs : Bytes) : (s.writeBytes o bs).Inv := by
  induction bs generalizing s o with
  | nil => exact h
  | cons b bs ih =>
    refine ih ?_ _
    rcases locate_cases o with ⟨r, k, -, -, hloc⟩ | ⟨c, i, hi, -, hloc⟩ | ⟨-, -, hloc⟩
    · rw [hloc]; exact h.writePlace_reg r k b
    · rw [hloc]; exact h.writePlace_buf hi b
    · rw [hloc]; exact h

theorem State.Inv.alignedWrite {s : State} (h : s.Inv) (o : Nat) (z : AccessSize) (v : Word) :
    (s.alignedWrite o z v).Inv := by
  unfold State.alignedWrite
  split_ifs
  · exact h.congr rfl rfl rfl rfl rfl rfl rfl h.busy
  · exact h.accept v
  · exact h
  · exact h.writeBytes o _

theorem State.Inv.respond {s : State} (h : s.Inv) (r : Response) : (s.respond r).Inv :=
  h.congr rfl rfl rfl rfl rfl rfl rfl h.busy

theorem State.Inv.hostWrite {s : State} (h : s.Inv) (o : BitVec 15) (z : AccessSize) (v : Word) :
    (s.hostWrite o z v).Inv := by
  by_cases ha : o.toNat % z.bytes = 0
  · rw [hostWrite_aligned s v ha]
    exact (h.alignedWrite _ z v).respond _
  · rw [hostWrite_misaligned s v ha]
    exact h.respond _

theorem State.Inv.hostRead {s : State} (h : s.Inv) (o : BitVec 15) (z : AccessSize) : (s.hostRead o z).Inv := by
  obtain ⟨r, d, hread⟩ := hostRead_eq s o z
  rw [hread]
  exact h.congr rfl rfl rfl rfl rfl rfl rfl h.busy

/-! ### Commits (R152) -/

/-- The forms of a commit; a schedule is that of a valid key, KEY itself. -/
inductive Commit.Form (s : State) : Commit → Prop
  | out (bs : Bytes) : Form s (.ofOut bs)
  | outTag (bs tag : Bytes) : Form s (.ofOutTag bs tag)
  | state (b : Bytes) : Form s (.ofState b)
  | gfres (b : Byte) : Form s (.ofGfres b)
  | zeros : Form s .zeros
  | key (hk : aesKeyLength s.keyBytes.length) : Form s (.ofKey s.keyBytes)
  | trace (hk : aesKeyLength s.keyBytes.length) (bs : Bytes) {tr : List TraceRecord}
    (htr : tr.length = 4 * nrOf s.keyBytes.length) : Form s (.ofTrace bs s.keyBytes tr)

theorem outcome_form {s : State} {i : Instr} {c : Commit} (h : outcome s i = .ok c) : c.Form s := by
  obtain ⟨hchecks, hresult⟩ := except_seq_eq_ok.1 h
  cases i with
  | keyExpand =>
    cases hresult
    exact .key (by simpa using aesKeyLength_of_checkKey hchecks)
  | blockEncT =>
    cases hresult
    exact .trace (aesKeyLength_keyBytes_of_checks hchecks) _ (length_encryptTrace _ _)
  | blockDecT =>
    cases hresult
    exact .trace (aesKeyLength_keyBytes_of_checks hchecks) _ (length_decryptTrace _ _)
  | ecbDec | cbcDec | xtsDec | unpad =>
    obtain ⟨out, -, ⟨⟩⟩ := except_bind_ok hresult
    exact .out out
  | gcmDec =>
    obtain ⟨-, ⟨⟩⟩ := except_seq_eq_ok.1 hresult
    exact .out _
  | gcmEnc => cases hresult; exact .outTag ..
  | gfMul => cases hresult; exact .gfres _
  | clear => cases hresult; exact .zeros
  | subBytes | invSubBytes | shiftRows | invShiftRows | mixColumns | invMixColumns | addRoundKey =>
    cases hresult
    exact .state _
  | modeEncUnsupported7 | modeEncUnsupported8to15 | modeDecUnsupported7 | modeDecUnsupported8to15 => cases hresult
  | _ => cases hresult; exact .out _

theorem storeAll_wf {m : Memory} (h : m.wf) (ws : List (Buf × Bytes)) : (m.storeAll ws).wf := by
  induction ws generalizing m with
  | nil => exact h
  | cons w ws ih => exact ih (setRange_wf h w.1.base w.2)

/-- The cells of a commit are old ones or lie where its pieces reach. -/
theorem mem_storeAll {ws : List (Buf × Bytes)} {m : Memory} {c : Host.Cell} (h : c ∈ m.storeAll ws) :
    c ∈ m ∨ (storedByte ws c.1).isSome = true := by
  induction ws generalizing m with
  | nil => exact .inl h
  | cons w ws ih =>
    rw [isSome_storedByte_cons]
    rcases ih (m := m.setRange w.1.base w.2) h with hold | hlater
    · exact (mem_setRange hold).imp_right .inl
    · exact .inr (.inr hlater)

section
variable {s : State} {i : Instr} {c : Commit}

/-- What fits stays within DOUT. -/
theorem Commit.Fits.length_dout_le (h : c.Fits i) {bs : Bytes} (hmem : (Buf.dout, bs) ∈ c.stores) :
    bs.length ≤ 4112 := by
  by_contra hlong
  have hreached : (storedByte c.stores 0x3010).isSome = true :=
    isSome_storedByte.2 ⟨_, hmem, by simp only [Buf.base]; omega⟩
  have hbuf := ((h.stores 0 _).1 hreached).1
  omega

/-- A commit that leaves the schedule flags alone reaches neither KEY nor ROUNDKEY. -/
theorem Commit.Fits.byteAt_of_ksValid_none (h : c.Fits i) (hvalid : c.ksValid = none) {a : Nat}
    (ha : (0x0040 ≤ a ∧ a < 0x0080) ∨ (0x0100 ≤ a ∧ a < 0x01F0)) : (c.apply s).byteAt a = s.byteAt a := by
  have hkept := h.ksValid
  rw [hvalid, Option.isSome_none, eq_comm, Bool.or_eq_false_iff, beq_eq_false_iff_ne] at hkept
  obtain ⟨hschedule, hclear⟩ := hkept
  rw [Commit.byteAt_apply]
  refine getD_of_not_isSome fun hsome => ?_
  obtain ⟨-, hmay⟩ := (h.stores s.olen a).1 hsome
  simp only [mayWrite, hschedule, hclear, Bool.false_eq_true, false_and, false_or, or_false] at hmay
  rcases hmay with ⟨-, hlo, hhi⟩ | ⟨-, hlo, hhi⟩ | ⟨-, hlo, hhi⟩ | ⟨-, hlo, hhi⟩ <;> omega

theorem Commit.Fits.roundKeyMatchesKey_of_none (h : c.Fits i) (hvalid : c.ksValid = none) (hnr : c.ksNr = none)
    (hs : s.roundKeyMatchesKey) : (c.apply s).roundKeyMatchesKey :=
  roundKeyMatchesKey_congr (s := s) (by simp [Commit.apply, hvalid]) (by simp [Commit.apply, hnr]) rfl
    (fun _ hk => h.byteAt_of_ksValid_none hvalid (by simp only [Buf.base, Buf.size] at hk ⊢; omega))
    (fun _ hk => h.byteAt_of_ksValid_none hvalid (by simp only [Buf.base, Buf.size] at hk ⊢; omega)) hs

/-- DOUT and TRACE lie past KEY, whose schedule the trace commit stores last. -/
theorem roundKeyMatchesKey_ofTrace (hk : aesKeyLength s.keyBytes.length) (bs : Bytes) (tr : List TraceRecord) :
    ((Commit.ofTrace bs s.keyBytes tr).apply s).roundKeyMatchesKey := by
  rw [length_keyBytes] at hk
  let u : State := (s.commitOut bs).setBuf .trace (traceImage tr)
  have hkey : u.keyBytes = s.keyBytes := bufFrom_congr fun k (hlt : k < s.keylen.toNat) => by
    rw [byteAt_setBuf, if_neg (by simp only [Buf.base]; omega), byteAt_commitOut,
      if_neg (by simp only [Buf.base]; omega)]
  have hu : (u.commitSchedule (expand u.keyBytes) (nrOf u.keylen.toNat)).roundKeyMatchesKey :=
    roundKeyMatchesKey_commitSchedule hk
  have hnr : nrOf s.keyBytes.length = nrOf u.keylen.toNat := by rw [length_keyBytes]; rfl
  rw [hkey] at hu
  rw [Commit.apply_ofTrace, State.commitTrace, hnr]
  exact roundKeyMatchesKey_congr (s := u.commitSchedule (expand s.keyBytes) (nrOf u.keylen.toNat)) rfl rfl rfl
    (fun _ _ => byteAt_of_mem_eq rfl rfl _) (fun _ _ => byteAt_of_mem_eq rfl rfl _) hu

theorem roundKeyMatchesKey_ofKey (hk : aesKeyLength s.keyBytes.length) :
    ((Commit.ofKey s.keyBytes).apply s).roundKeyMatchesKey := by
  rw [length_keyBytes] at hk
  rw [Commit.apply_ofKey, length_keyBytes]
  exact roundKeyMatchesKey_commitSchedule hk

theorem ksNr_ofNat_nrOf {n : Nat} (hn : aesKeyLength n) :
    BitVec.ofNat 4 (nrOf n) = 10 ∨ BitVec.ofNat 4 (nrOf n) = 12 ∨ BitVec.ofNat 4 (nrOf n) = 14 := by
  rcases hn with rfl | rfl | rfl <;> decide

theorem Commit.Form.ksConsistent (h : c.Form s) (hs : s.ksConsistent) : (c.apply s).ksConsistent := by
  cases h with
  | out | outTag | state | gfres => exact hs
  | zeros => exact .inr ⟨rfl, rfl⟩
  | key hk | trace hk => exact .inl ⟨rfl, ksNr_ofNat_nrOf hk⟩

theorem Commit.Form.roundKeyMatchesKey (h : c.Form s) (hfits : c.Fits i) (hs : s.roundKeyMatchesKey) :
    (c.apply s).roundKeyMatchesKey := by
  cases h with
  | out | outTag | state | gfres => exact hfits.roundKeyMatchesKey_of_none rfl rfl hs
  | zeros => exact roundKeyMatchesKey_of_invalid rfl
  | key hk => exact roundKeyMatchesKey_ofKey hk
  | trace hk bs => exact roundKeyMatchesKey_ofTrace hk bs _

theorem toNat_ofNat_le_of_le {w n m : Nat} (h : n ≤ m) : (BitVec.ofNat w n).toNat ≤ m := by
  rw [BitVec.toNat_ofNat]
  exact (Nat.mod_le ..).trans h

theorem Commit.Form.countersInRange (h : c.Form s) (hfits : c.Fits i) (hs : s.countersInRange) :
    (c.apply s).countersInRange := by
  obtain ⟨holen, hcount⟩ := hs
  cases h with
  | out | outTag => exact ⟨toNat_ofNat_le_of_le (hfits.length_dout_le List.mem_cons_self), hcount⟩
  | state | gfres | key => exact ⟨holen, hcount⟩
  | zeros => exact ⟨Nat.zero_le _, Nat.zero_le _⟩
  | trace hk bs htr =>
    have hnr := nrOf_le hk
    exact ⟨toNat_ofNat_le_of_le (hfits.length_dout_le List.mem_cons_self), toNat_ofNat_le_of_le (by omega)⟩

theorem State.Inv.apply (h : s.Inv) (hform : c.Form s) (hfits : c.Fits i) : (c.apply s).Inv where
  memCanonical := storeAll_wf h.memCanonical _
  memInBuffers := fun d hd => (mem_storeAll hd).elim (h.memInBuffers d) fun hsome =>
    Commit.exists_buf_iff_inBuffer.2 ((hfits.stores s.olen d.1).1 hsome).1
  schedule := hform.ksConsistent h.schedule
  roundKey := hform.roundKeyMatchesKey hfits h.roundKey
  counters := hform.countersInRange hfits h.counters
  busy := h.busy

end

/-! ### Steps -/

theorem State.Inv.exec {s t : State} (h : s.Inv) {i : Instr} (ht : exec i s = .next t) : t.Inv := by
  rcases exec_outcome_cases ht with ⟨c, hc, rfl⟩ | ⟨e, -, rfl⟩
  · exact (h.apply (outcome_form hc) (outcome_fits hc)).completeOk
  · exact h.completeErr e

theorem State.Inv.engineTurn {s t : State} (h : s.Inv) (ht : engineTurn s = .next t) : t.Inv := by
  cases hp : s.pending with
  | none =>
    rw [engineTurn_idle hp] at ht
    cases ht
    exact h
  | some w =>
    rw [engineTurn_pending hp] at ht
    cases hdecode : decode w with
    | ok i =>
      rw [completeWord_ok hdecode] at ht
      exact h.exec ht
    | error e =>
      rw [completeWord_error hdecode] at ht
      cases ht
      exact h.completeErr _

theorem State.Inv.eventStep {s t : State} (h : s.Inv) {e : Event} (ht : eventStep e s = .next t) : t.Inv := by
  cases e with
  | hostRead o z => cases ht; exact h.hostRead o z
  | hostWrite o z v => cases ht; exact h.hostWrite o z v
  | engine => exact h.engineTurn ht
  | reset => cases ht; exact inv_of_reset rfl rfl rfl rfl rfl rfl

/-! ### The statements about the invariant -/

/-- Settles O22: reset leaves nothing for the invariant to speak of. -/
theorem resetMeetsTheInvariant : Obligations.ResetMeetsTheInvariant := inv_of_reset rfl rfl rfl rfl rfl rfl

/-- Settles O23: the Engine's turn and each event keep the invariant, and no part of it speaks of the schedule. -/
theorem stepKeepsTheInvariant : Obligations.StepKeepsTheInvariant := by
  intro s t h ht
  rcases step_cases ht with ⟨-, hturn⟩ | ⟨e, rest, -, he⟩
  · exact h.engineTurn hturn
  · exact (h.congr (t := { s with schedule := rest }) rfl rfl rfl rfl rfl rfl rfl h.busy).eventStep he

end Sys2Proof.Machine
end

section
/-! PROOFS. Family other: a pending command up to its completion, and reset. -/

namespace Sys2Proof.Machine

open Sys2Proof Sys2Proof.Claims

/-! ### Host accesses while a command is pending (R88, R154) -/

/-- What the host can change while a command is pending: flags, the answer, and the number of draws. -/
theorem step_host_busy {s : State} {e : Event} {rest : List Event} (hs : s.schedule = e :: rest)
    (hbusy : s.pending ≠ none) (hengine : e ≠ .engine) (hreset : e ≠ .reset) :
    ∃ r i d w n, step s = .next
      { s with schedule := rest, response := r, irqEn := i, done := d, wdrop := w, draws := n } := by
  cases e with
  | hostRead o z =>
    obtain ⟨r, d, hread⟩ := hostRead_eq { s with schedule := rest } o z
    exact ⟨_, _, _, _, _, by rw [step_hostRead hs, hread]⟩
  | hostWrite o z v =>
    by_cases ha : o.toNat % z.bytes = 0
    · have hranges : (o.toNat < 0x0008 ∨ (0x000C ≤ o.toNat ∧ o.toNat < 0x0010) ∨ 0x0014 ≤ o.toNat) ∨
          (0x0008 ≤ o.toNat ∧ o.toNat < 0x000C) ∨ (0x0010 ≤ o.toNat ∧ o.toNat < 0x0014) := by omega
      rcases hranges with ho | ho | ho
      · exact ⟨_, _, _, _, _, step_write_dropped hs hbusy ha ho⟩
      · exact ⟨_, _, _, _, _, step_write_ctrl hs ha ho⟩
      · exact ⟨_, _, _, _, _, step_write_status hs ha ho⟩
    · exact ⟨_, _, _, _, _, by rw [step_hostWrite hs, hostWrite_misaligned _ v ha]; rfl⟩
  | engine => exact absurd rfl hengine
  | reset => exact absurd rfl hreset

/-- At the Engine's turn the pending command completes (R153). -/
theorem step_completes {s : State} {w : Word} (hp : s.pending = some w) (hturn : enginesTurn s) :
    ∃ t, step s = .next t ∧ t.pending = none ∧ t.done = true := by
  rw [step_enginesTurn hp hturn]
  obtain ⟨t, ht⟩ := completeWord_isNext w { s with schedule := s.schedule.tail }
  refine ⟨t, ht, completeWord_pending ht, ?_⟩
  rcases completeWord_cases ht with ⟨u, rfl⟩ | ⟨e, rfl⟩ <;> rfl

/-- A run takes its first step and goes on from there. -/
theorem core_run_succ {s t : State} (h : step s = .next t) (k : Nat) : core.run (k + 1) s = core.run k t := by
  have hcore : core.step s = .next t := h
  simp only [Host.Core.run, hcore]

theorem sameOperands_refl (s : State) : SameOperands s s := ⟨rfl, rfl, rfl, rfl, rfl, rfl, rfl, fun _ _ => rfl⟩

/-- Settles O7, by induction on the schedule: the host's steps before the Engine's turn leave the operands alone. -/
theorem acceptedCommandCompletes : Obligations.AcceptedCommandCompletes := by
  intro s w hp hnoReset
  induction hs : s.schedule generalizing s with
  | nil =>
    obtain ⟨t, ht, hidle, hdone⟩ := step_completes hp (.inl hs)
    exact ⟨0, s, t, Nat.zero_le _, rfl, hp, sameOperands_refl s, fun _ => rfl, .inl hs, ht, hidle, hdone⟩
  | cons e rest ih =>
    rw [hs] at hnoReset
    by_cases hengine : e = .engine
    · have hturn : enginesTurn s := .inr ⟨rest, by rw [hs, hengine]⟩
      obtain ⟨t, ht, hidle, hdone⟩ := step_completes hp hturn
      exact ⟨0, s, t, Nat.zero_le _, rfl, hp, sameOperands_refl s, fun _ => rfl, hturn, ht, hidle, hdone⟩
    · obtain ⟨r, i, d, b, n, hstep⟩ :=
        step_host_busy hs (by simp [hp]) hengine (hnoReset e List.mem_cons_self)
      obtain ⟨k, u, t, hk, hrun, hu⟩ := ih
        { s with schedule := rest, response := r, irqEn := i, done := d, wdrop := b, draws := n } hp
        (fun e' he' => hnoReset e' (List.mem_cons_of_mem _ he')) rfl
      exact ⟨k + 1, u, t, Nat.succ_le_succ hk, (core_run_succ hstep k).trans hrun, hu⟩

/-! ### The Engine's turn, and reset -/

/-- Settles O5: the Engine's turn, scheduled or not, completes the pending word, and the word is the instruction. -/
theorem stepRunsPendingCommand : Obligations.StepRunsPendingCommand := by
  intro s w i hdecode
  refine ⟨fun hp hs => ?_, fun rest hp hs => ?_, fun nbits v hw => ?_⟩
  · rw [step_nil hs, engineTurn_pending hp, completeWord_ok hdecode]
  · rw [step_enginesTurn hp (.inr ⟨rest, hs⟩), hs, List.tail_cons, completeWord_ok hdecode]
  · rw [step_withFetchWord, hw, completeWord_ok hdecode]

/-- Settles O20: the state after reset holds these values, and ID, CAP and CMD hold no state. -/
theorem resetState : Obligations.ResetState :=
  ⟨rfl, rfl, by decide, rfl, rfl, rfl, rfl, rfl, rfl, rfl, rfl, rfl, rfl, fun _ => rfl, fun _ => ⟨rfl, rfl, rfl⟩⟩

/-- Settles O21: a reset step is `State.resetNow`, whatever is pending. -/
theorem resetAbandonsThePendingCommand : Obligations.ResetAbandonsThePendingCommand := fun _ _ hnext =>
  ⟨_, step_cons hnext, rfl, rfl, rfl, rfl, rfl, rfl, fun _ => rfl⟩

end Sys2Proof.Machine
end
